-- ==== Sys2Proof/Word.lean ====
section
/-! DEFINITION. The block's data widths (00_scope.md R8): bytes, byte strings and 32-bit words. -/

namespace Sys2Proof

/-- A byte, 0..255 (R8). -/
abbrev Byte := BitVec 8

/-- A 32-bit word (R8). A float32 is only its word (R104). Counters and tickets are words that wrap modulo 2^32 (R9). -/
abbrev Word := BitVec 32

/-- A byte string, written left to right in the order it is sent or received; index 0 is the first byte (R8). -/
abbrev Bytes := List Byte

end Sys2Proof
end

