-- ==== Sys2Proof/Config.lean ====
section
/-! DEFINITION. What is fixed for one instance of the block (00_scope.md R6, R7), the constants of the wire format,
and the one free value: the link controller's answer to a transmit (R183). -/

namespace Sys2Proof

/-- The parameters the model takes as arguments (R6). They are fixed for the life of the instance (R31): no step writes them.
DEDUCED (log 1): held in State so that a statement about every state covers every configuration. -/
structure Config where
  /-- `DELAY_TICKS`: the ticks that must pass after a transmit attempt; any natural number (R6, R7). -/
  delayTicks : Nat
  /-- `FRAMER_CAP`: the capacity in bytes of `pending`; at least 260 (R6, R7). -/
  framerCap : Nat
  /-- `SEQ_QCAP`: the capacity in commands of `queue`; at least 1 (R6, R7). -/
  seqQcap : Nat
  /-- `F32_SENTINEL_BITS`: the word a short float32 decode returns (R6, R105). -/
  f32Sentinel : Word
  deriving DecidableEq, Repr

/-- R7: "A model must refuse a configuration with `FRAMER_CAP < 260` or `SEQ_QCAP < 1`." -/
def Config.legal (c : Config) : Bool := decide (260 ≤ c.framerCap) && decide (1 ≤ c.seqQcap)

/-- `TICK_PERIOD` in milliseconds: the time one tick stands for (R6). No step reads it (R263). -/
def Config.tickPeriodMs : Nat := 1

/-- `INTER_CMD_DELAY` in milliseconds: the source's reference value (R6). -/
def Config.interCmdDelayMs : Nat := 50

/-- The values of R6's table. `DELAY_TICKS = INTER_CMD_DELAY / TICK_PERIOD`. -/
def Config.default : Config :=
  { delayTicks := Config.interCmdDelayMs / Config.tickPeriodMs, framerCap := 260, seqQcap := 16, f32Sentinel := 0x00000000 }

/-- `SENTINEL`: the framer's delimiter (R6, R150). -/
def Config.sentinel : Byte := 0xF0

/-- `HDR_TO_DEVICE`: the header of outbound frames (R6, R72). -/
def Config.hdrToDevice : Byte := 0xF1

/-- `HDR_TO_HOST`: the header of inbound frames (R6, R72). -/
def Config.hdrToHost : Byte := 0xF0

/-- `MAX_PAYLOAD` (R6). -/
def Config.maxPayload : Nat := 255

/-- `MAX_FRAME = 5 + MAX_PAYLOAD` (R6, R70). -/
def Config.maxFrame : Nat := 260

/-- `COMPOSITE_LEN`: the payload length the composite decoder requires (R6, R111). -/
def Config.compositeLen : Nat := 139

/-- `SEQ_MAX_CMD`: the largest command the queue accepts, in bytes (R6, R180). -/
def Config.seqMaxCmd : Nat := 260

/-- The outcome of a transmit (R32). -/
inductive TxOutcome where
  | ok
  | fail
  deriving DecidableEq, Repr, Inhabited

/-- FREE VALUE (log 11): the link controller's answer to the `n`-th transmit attempted while the link is up.
R183: "draw o in {OK, FAIL}"; R11: "a free value ... that no law constrains". It has no body, so no proof can see it. -/
opaque Config.linkAnswer : Nat → TxOutcome

end Sys2Proof
end

