-- ==== Sys2Proof/Machine/Events.lean ====
section
/-! DEFINITION. The events of the four output streams (10_state.md R32), with the log codes (60_exceptions.md R221) and the
completion statuses (R222). -/

namespace Sys2Proof.Machine

/-- The log codes of R221. "All other codes are never emitted." -/
inductive LogCode where
  | candShort
  | candLength
  | candChecksum
  | framerOverflow
  | decodeShortF32
  | decodeShortU8
  | decodeShortComposite
  | seqTxFailed
  | seqDropped
  | seqQueueFull
  | seqBadCmdLength
  deriving DecidableEq, Repr

/-- The 8-bit code of R221's table. -/
def LogCode.code : LogCode → Byte
  | .candShort => 0x01
  | .candLength => 0x02
  | .candChecksum => 0x03
  | .framerOverflow => 0x04
  | .decodeShortF32 => 0x10
  | .decodeShortU8 => 0x11
  | .decodeShortComposite => 0x12
  | .seqTxFailed => 0x20
  | .seqDropped => 0x21
  | .seqQueueFull => 0x22
  | .seqBadCmdLength => 0x23

/-- A completion's status (R222). -/
inductive Status where
  | ok
  | txFailed
  | dropped
  | rejected
  deriving DecidableEq, Repr

/-- The 2-bit encoding of R222's table. -/
def Status.code : Status → BitVec 2
  | .ok => 0
  | .txFailed => 1
  | .dropped => 2
  | .rejected => 3

/-- A `log` event: `(code, info)` (R32, R221). -/
structure LogEvent where
  code : LogCode
  info : Word
  deriving DecidableEq, Repr

/-- A `frame_out` event: the candidate's bytes and its parsed fields (R32, R153). -/
structure FrameOut where
  raw : Bytes
  hdr : Byte
  cmd : Byte
  reg : Byte
  len : Byte
  payload : Bytes
  deriving DecidableEq, Repr

/-- A `link_tx` event: one whole command and the outcome of its transmit (R32, R57). -/
structure LinkTx where
  bytes : Bytes
  outcome : TxOutcome
  deriving DecidableEq, Repr

/-- A `completion` event (R32). -/
structure Completion where
  ticket : Word
  status : Status
  deriving DecidableEq, Repr

/-- An event as a stream holds it. R231: "a single step counter that every event carries". DEDUCED (log 13): `step` numbers the
block's steps and `seq` the events themselves, so that the order of two events of one step in two streams is kept too. -/
structure Stamped (α : Type) where
  step : Nat
  seq : Nat
  ev : α
  deriving DecidableEq, Repr

/-- The info word of a length (R221; R9: modulo 2^32, log 17). -/
def lengthInfo (n : Nat) : Word := BitVec.ofNat 32 n

end Sys2Proof.Machine
end

