-- ==== Sys2Proof/Machine/Flags.lean ====
section
/-! DEFINITION. The flag-like results (10_state.md R33): `valid` and `reason`, `short`, `clamped`, `ok`, the result types that
carry them, and how each is computed. They are outputs of one operation and held in no state. -/

namespace Sys2Proof.Machine

/-- Why a candidate is invalid (40_codec.md R102). -/
inductive Invalid where
  | short
  | length
  | checksum
  deriving DecidableEq, Repr

/-- The fields of a valid frame (R102). -/
structure Frame where
  hdr : Byte
  cmd : Byte
  reg : Byte
  len : Byte
  payload : Bytes
  deriving DecidableEq, Repr

/-- The result of `CODEC_VALIDATE`: no fields unless valid (R102). -/
inductive Verdict where
  | invalid (r : Invalid)
  | valid (f : Frame)
  deriving DecidableEq, Repr

/-- The output `valid`, 1 bit (R102). -/
def Verdict.isValid : Verdict → Bool
  | .invalid _ => false
  | .valid _ => true

/-- The output `reason`: NONE 0, SHORT 1, LENGTH 2, CHECKSUM 3 (R102). -/
def Verdict.reason : Verdict → BitVec 2
  | .valid _ => 0
  | .invalid .short => 1
  | .invalid .length => 2
  | .invalid .checksum => 3

/-- The log code a failed hand-off reports "per r.reason" (41_framer.md R153). -/
def Invalid.logCode : Invalid → LogCode
  | .short => .candShort
  | .length => .candLength
  | .checksum => .candChecksum

/-- The `short` flag: fewer than `width` bytes from offset `k`, computed in naturals (R51, R105, R106). -/
def isShort (bs : Bytes) (k width : Nat) : Bool := decide (bs.length < k + width)

/-- A float32 read (R105). -/
structure F32Read where
  w : Word
  short : Bool
  deriving DecidableEq, Repr

/-- A one-byte read (R106). -/
structure U8Read where
  b : Byte
  short : Bool
  deriving DecidableEq, Repr

/-- A boolean read (R107). -/
structure BoolRead where
  v : Bool
  short : Bool
  deriving DecidableEq, Repr

/-- An enumeration value: ordinal, label, and whether it was clamped (R108, R109, R111). -/
structure EnumVal (L : Type) where
  ord : Byte
  label : L
  clamped : Bool
  deriving DecidableEq, Repr

/-- An enumeration read (R108, R109). -/
structure EnumRead (L : Type) where
  val : EnumVal L
  short : Bool
  deriving DecidableEq, Repr

/-- The protection states (30_encoding.md R77): ordinals 0..5. -/
inductive Prot where
  | none
  | ovp
  | ocp
  | opp
  | otp
  | lvp
  deriving DecidableEq, Repr

/-- The output modes (R77): 0 constant-current, 1 constant-voltage. -/
inductive Mode where
  | cc
  | cv
  deriving DecidableEq, Repr

/-- `LABEL` of R108. -/
def protTable : List Prot := [.none, .ovp, .ocp, .opp, .otp, .lvp]

/-- `LABEL` of R109. -/
def modeTable : List Mode := [.cc, .cv]

/-- `enum(b, T)` of R111: "`(b, T[b], false)` when `b < |T|` and `(0, T[0], true)` otherwise"; `first` is `T[0]`. -/
def enumValue {L : Type} (table : List L) (first : L) (b : Byte) : EnumVal L :=
  match table[b.toNat]? with
  | some l => { ord := b, label := l, clamped := false }
  | none => { ord := 0, label := first, clamped := true }

/-- The protection enumeration (R108). -/
def protValue (b : Byte) : EnumVal Prot := enumValue protTable .none b

/-- The mode enumeration (R109). -/
def modeValue (b : Byte) : EnumVal Mode := enumValue modeTable .cc b

/-- The output telemetry (R110). -/
structure Telemetry where
  v : F32Read
  i : F32Read
  p : F32Read
  deriving DecidableEq, Repr

/-- The all-state record (R111). -/
structure Composite where
  inputV : Word
  setV : Word
  setI : Word
  outV : Word
  outI : Word
  outP : Word
  temp : Word
  outEn : Bool
  protection : EnumVal Prot
  mode : EnumVal Mode
  raw : Bytes
  deriving DecidableEq, Repr

/-- The field a float32 register stands for (R112). -/
inductive F32Field where
  | inputV
  | setV
  | setI
  | temp
  deriving DecidableEq, Repr

/-- The result of `DECODE_REGISTER` (R112). The `ok` flag of a composite is whether it is `some` (R111). -/
inductive RegValue where
  | f32 (field : F32Field) (r : F32Read)
  | telemetry (t : Telemetry)
  | outEn (r : BoolRead)
  | protection (r : EnumRead Prot)
  | mode (r : EnumRead Mode)
  | composite (c : Option Composite)
  | unknown (reg : Byte)
  deriving DecidableEq, Repr

/-- Why the block refuses an operation request (60_exceptions.md R223). -/
inductive FaultReason where
  | encodeTooLong
  | reservedOp
  deriving DecidableEq, Repr

end Sys2Proof.Machine
end

