-- ==== Sys2Proof/Syntax.lean ====
section
/-! DEFINITION. The requests a step of the block serves, and `Instr`: one constructor per row of spec/opcode_table.json. -/

namespace Sys2Proof

/-- The three row formats of the opcode table (30_encoding.md R81, R82). -/
inductive Format where
  /-- An operation request: matched on its id byte (R82). -/
  | op
  /-- A frame: matched on the head word `H & mask` (R81). -/
  | frame
  /-- A frame looked up by its register: matched on `H[15:8]` (R81). -/
  | register
  deriving DecidableEq, Repr

/-- One request: which table it is looked up in, and its bytes. DESIGN CHOICE (log 4, log 5): the spec types a request's
operands and gives no byte layout, and it gives the table's formats without a carrier that tells them apart. -/
structure Request where
  fmt : Format
  bytes : Bytes
  deriving DecidableEq, Repr

/-- The command operand of `CODEC_ENCODE`, 2 bits (R73). -/
inductive Cmd where
  | get
  | set
  | enable
  | baud
  deriving DecidableEq, Repr

/-- One constructor per row of spec/opcode_table.json. -/
inductive Instr where
  -- format `op`: the Frame Codec
  /-- `CODEC_CHECKSUM` (R100). -/
  | codecChecksum (reg len : Byte) (payload : Bytes)
  /-- `CODEC_ENCODE` (R101). -/
  | codecEncode (cmd : Cmd) (reg : Byte) (payload : Bytes)
  /-- `CODEC_VALIDATE` (R102). -/
  | codecValidate (cand : Bytes)
  /-- `CODEC_F32_TO_BYTES` (R103). -/
  | codecF32ToBytes (w : Word)
  /-- `DECODE_F32` (R105). -/
  | decodeF32 (bs : Bytes) (k : Word)
  /-- `DECODE_U8` (R106). -/
  | decodeU8 (bs : Bytes) (k : Word)
  /-- `DECODE_BOOL` (R107). -/
  | decodeBool (bs : Bytes) (k : Word)
  /-- `DECODE_PROTECTION` (R108). -/
  | decodeProtection (bs : Bytes) (k : Word)
  /-- `DECODE_MODE` (R109). -/
  | decodeMode (bs : Bytes) (k : Word)
  /-- `DECODE_TELEMETRY` (R110). -/
  | decodeTelemetry (bs : Bytes)
  /-- `DECODE_COMPOSITE` (R111). -/
  | decodeComposite (bs : Bytes)
  /-- `DECODE_REGISTER` (R112). -/
  | decodeRegister (reg : Byte) (payload : Bytes)
  -- format `op`: the Stream Framer
  /-- `FRAMER_PUSH` (R154). -/
  | framerPush (chunk : Bytes)
  /-- `FRAMER_RESET` (R155). -/
  | framerReset
  -- format `op`: the Command Sequencer, the link events, status and reset
  /-- `SEQ_ENQUEUE` (R180). -/
  | seqEnqueue (cmd : Bytes)
  /-- `SEQ_ISSUE` (R183): the worker's internal step. -/
  | seqIssue
  /-- `SEQ_TICK` (R185). -/
  | seqTick
  /-- `LINK_OPEN` (R186). -/
  | linkOpen
  /-- `LINK_CLOSE` (R187). -/
  | linkClose
  /-- `STATUS_READ` (R190). -/
  | statusRead (idx : Byte)
  /-- `BLOCK_RESET` (R250). -/
  | blockReset
  -- format `frame`
  /-- `FRAME_GET`: the device-bound frame of command GET (R101, R73); length and checksum are derived (R74, R75). -/
  | frameGet (reg : Byte) (payload : Bytes)
  /-- `FRAME_SET` (R101, R73). -/
  | frameSet (reg : Byte) (payload : Bytes)
  /-- `FRAME_ENABLE` (R101, R73). -/
  | frameEnable (reg : Byte) (payload : Bytes)
  /-- `FRAME_BAUD` (R101, R73). -/
  | frameBaud (reg : Byte) (payload : Bytes)
  /-- `FRAME_INBOUND`: the bytes `F0 ++ tail` of a host-bound frame, received at the framer that hands them off (R153, R160). -/
  | frameInbound (tail : Bytes)
  -- format `register`: a valid frame looked up by its register byte (R112, R76); `hdr` and `cmd` are not consulted
  /-- `REG_INPUT_V`, register `0xC0`. -/
  | regInputV (hdr cmd : Byte) (payload : Bytes)
  /-- `REG_SET_V`, register `0xC1`. -/
  | regSetV (hdr cmd : Byte) (payload : Bytes)
  /-- `REG_SET_I`, register `0xC2`. -/
  | regSetI (hdr cmd : Byte) (payload : Bytes)
  /-- `REG_TELEMETRY`, register `0xC3`. -/
  | regTelemetry (hdr cmd : Byte) (payload : Bytes)
  /-- `REG_TEMP`, register `0xC4`. -/
  | regTemp (hdr cmd : Byte) (payload : Bytes)
  /-- `REG_OUT_EN`, register `0xDB`. -/
  | regOutEn (hdr cmd : Byte) (payload : Bytes)
  /-- `REG_PROTECTION`, register `0xDC`. -/
  | regProtection (hdr cmd : Byte) (payload : Bytes)
  /-- `REG_MODE`, register `0xDD`. -/
  | regMode (hdr cmd : Byte) (payload : Bytes)
  /-- `REG_ALL_STATE`, register `0xFF`. -/
  | regAllState (hdr cmd : Byte) (payload : Bytes)
  deriving DecidableEq, Repr

end Sys2Proof
end

