-- ==== Sys2Proof/Machine/Operands.lean ====
section
/-! DEFINITION. The operand forms and the pure functions over them: bounded reads of a byte string (20_memory.md R51 to R55),
little-endian words (00_scope.md R10), the checksum, the frame layout and the decoders (40_codec.md). -/

namespace Sys2Proof.Machine

/-- `s[k]` (R8). Every caller checks the bound first (R51), so the default is never a result of an operation. -/
def byteAt (bs : Bytes) (k : Nat) : Byte := bs.getD k 0

/-- `s[i..j]`, inclusive, empty when `j < i` (R8). -/
def slice (bs : Bytes) (i j : Nat) : Bytes := (bs.drop i).take (j + 1 - i)

/-- `sum(s)`, over naturals (R9). -/
def byteSum (bs : Bytes) : Nat := (bs.map BitVec.toNat).sum

/-- `le32(s, k)` (R10). -/
def le32 (bs : Bytes) (k : Nat) : Word :=
  (byteAt bs k).setWidth 32 ||| ((byteAt bs (k + 1)).setWidth 32 <<< 8) |||
    ((byteAt bs (k + 2)).setWidth 32 <<< 16) ||| ((byteAt bs (k + 3)).setWidth 32 <<< 24)

/-- `le32_bytes(w)` (R10, R103). -/
def le32Bytes (w : Word) : Bytes :=
  [w.extractLsb' 0 8, w.extractLsb' 8 8, w.extractLsb' 16 8, w.extractLsb' 24 8]

/-- The checksum `(reg + len + sum(payload)) mod 256` (R75, R100). -/
def checksum (reg len : Byte) (payload : Bytes) : Byte :=
  BitVec.ofNat 8 (reg.toNat + len.toNat + byteSum payload)

/-- The command bytes (R73; `CMDBYTE` of R101). -/
def cmdByte : Cmd → Byte
  | .get => 0xA1
  | .set => 0xB1
  | .enable => 0xC1
  | .baud => 0xB0

/-- The 2-bit operand code of a command (R73). -/
def cmdCode : Cmd → BitVec 2
  | .get => 0
  | .set => 1
  | .enable => 2
  | .baud => 3

/-- The wire frame (R71): `hdr cmd reg len payload chk`, with `len` and `chk` derived (R74, R75). -/
def frameBytes (hdr cmd reg : Byte) (payload : Bytes) : Bytes :=
  [hdr, cmd, reg, BitVec.ofNat 8 payload.length] ++ payload ++
    [checksum reg (BitVec.ofNat 8 payload.length) payload]

/-- `CODEC_ENCODE`'s frame, or none where it raises `ENCODE_TOO_LONG` (R101). -/
def encodeFrame (cmd : Cmd) (reg : Byte) (payload : Bytes) : Option Bytes :=
  if payload.length > Config.maxPayload then none
  else some (frameBytes Config.hdrToDevice (cmdByte cmd) reg payload)

/-- `CODEC_VALIDATE` (R102): the checks in the order the rule gives, the first that fails gives the reason (R229). -/
def validate (cand : Bytes) : Verdict :=
  if cand.length < 5 then .invalid .short
  else if (byteAt cand 3).toNat ≠ cand.length - 5 then .invalid .length
  else if byteAt cand (cand.length - 1) ≠
      checksum (byteAt cand 2) (byteAt cand 3) (slice cand 4 (cand.length - 2)) then .invalid .checksum
  else .valid
    { hdr := byteAt cand 0, cmd := byteAt cand 1, reg := byteAt cand 2, len := byteAt cand 3,
      payload := slice cand 4 (cand.length - 2) }

/-- A codec result with the warnings its short reads log (R115): a value and the `log` events, in order. -/
structure Logged (α : Type) where
  val : α
  warns : List LogEvent
  deriving DecidableEq, Repr

/-- `DECODE_F32` (R105); `z` is `F32_SENTINEL_BITS`. -/
def readF32 (z : Word) (bs : Bytes) (k : Word) : Logged F32Read :=
  if isShort bs k.toNat 4 then
    { val := { w := z, short := true }, warns := [{ code := .decodeShortF32, info := k }] }
  else { val := { w := le32 bs k.toNat, short := false }, warns := [] }

/-- `DECODE_U8` (R106). -/
def readU8 (bs : Bytes) (k : Word) : Logged U8Read :=
  if isShort bs k.toNat 1 then
    { val := { b := 0x00, short := true }, warns := [{ code := .decodeShortU8, info := k }] }
  else { val := { b := byteAt bs k.toNat, short := false }, warns := [] }

/-- `DECODE_BOOL` (R107): every non-zero byte is true. -/
def readBool (bs : Bytes) (k : Word) : Logged BoolRead :=
  { val := { v := (readU8 bs k).val.b != 0, short := (readU8 bs k).val.short }, warns := (readU8 bs k).warns }

/-- `DECODE_PROTECTION` (R108). -/
def readProtection (bs : Bytes) (k : Word) : Logged (EnumRead Prot) :=
  { val := { val := protValue (readU8 bs k).val.b, short := (readU8 bs k).val.short }, warns := (readU8 bs k).warns }

/-- `DECODE_MODE` (R109). -/
def readMode (bs : Bytes) (k : Word) : Logged (EnumRead Mode) :=
  { val := { val := modeValue (readU8 bs k).val.b, short := (readU8 bs k).val.short }, warns := (readU8 bs k).warns }

/-- `DECODE_TELEMETRY` (R110): three float32 at 0, 4 and 8, each short field with its own log, in that order. -/
def readTelemetry (z : Word) (bs : Bytes) : Logged Telemetry :=
  { val := { v := (readF32 z bs 0).val, i := (readF32 z bs 4).val, p := (readF32 z bs 8).val },
    warns := (readF32 z bs 0).warns ++ (readF32 z bs 4).warns ++ (readF32 z bs 8).warns }

/-- The record of R111, read from a payload of at least 139 bytes. -/
def compositeRecord (bs : Bytes) : Composite :=
  { inputV := le32 bs 0, setV := le32 bs 4, setI := le32 bs 8
    outV := le32 bs 12, outI := le32 bs 16, outP := le32 bs 20, temp := le32 bs 24
    outEn := byteAt bs 107 != 0
    protection := protValue (byteAt bs 108)
    mode := modeValue (byteAt bs 109)
    raw := slice bs 0 138 }

/-- `DECODE_COMPOSITE` (R111): all or nothing. -/
def readComposite (bs : Bytes) : Logged (Option Composite) :=
  if bs.length < Config.compositeLen then
    { val := none, warns := [{ code := .decodeShortComposite, info := lengthInfo bs.length }] }
  else { val := some (compositeRecord bs), warns := [] }

/-- A codec result under a constructor of `RegValue`. -/
def Logged.mapVal {α β : Type} (f : α → β) (r : Logged α) : Logged β := { val := f r.val, warns := r.warns }

/-- `DECODE_REGISTER` (R112): dispatch by register id over the catalogue (R76). -/
def readRegister (z : Word) (reg : Byte) (payload : Bytes) : Logged RegValue :=
  match reg.toNat with
  | 0xC0 => (readF32 z payload 0).mapVal (RegValue.f32 .inputV)
  | 0xC1 => (readF32 z payload 0).mapVal (RegValue.f32 .setV)
  | 0xC2 => (readF32 z payload 0).mapVal (RegValue.f32 .setI)
  | 0xC3 => (readTelemetry z payload).mapVal RegValue.telemetry
  | 0xC4 => (readF32 z payload 0).mapVal (RegValue.f32 .temp)
  | 0xDB => (readBool payload 0).mapVal RegValue.outEn
  | 0xDC => (readProtection payload 0).mapVal RegValue.protection
  | 0xDD => (readMode payload 0).mapVal RegValue.mode
  | 0xFF => (readComposite payload).mapVal RegValue.composite
  | _ => { val := .unknown reg, warns := [] }

end Sys2Proof.Machine
end

