-- ==== Sys2Proof/WellFormed.lean ====
section
/-! DEFINITION. Which instructions an encoding exists for. Operand widths are already in the types of `Instr`. -/

namespace Sys2Proof

/-- A frame's payload has 0..255 bytes, because `len` is one byte (30_encoding.md R70, R74). -/
def payloadFits (payload : Bytes) : Bool := decide (payload.length ≤ Config.maxPayload)

/-- The well-formed instructions. An operation takes every value of its operands: a payload `CODEC_ENCODE` refuses (R101) and
a command `SEQ_ENQUEUE` rejects (R180) are requests with a meaning. So are host-bound bytes that turn out to be no valid frame:
the framer takes any byte (41_framer.md R150). -/
def Instr.wf : Instr → Bool
  | .codecChecksum _ _ _ => true
  | .codecEncode _ _ _ => true
  | .codecValidate _ => true
  | .codecF32ToBytes _ => true
  | .decodeF32 _ _ => true
  | .decodeU8 _ _ => true
  | .decodeBool _ _ => true
  | .decodeProtection _ _ => true
  | .decodeMode _ _ => true
  | .decodeTelemetry _ => true
  | .decodeComposite _ => true
  | .decodeRegister _ _ => true
  | .framerPush _ => true
  | .framerReset => true
  | .seqEnqueue _ => true
  | .seqIssue => true
  | .seqTick => true
  | .linkOpen => true
  | .linkClose => true
  | .statusRead _ => true
  | .blockReset => true
  | .frameGet _ payload => payloadFits payload
  | .frameSet _ payload => payloadFits payload
  | .frameEnable _ payload => payloadFits payload
  | .frameBaud _ payload => payloadFits payload
  | .frameInbound _ => true
  | .regInputV _ _ payload => payloadFits payload
  | .regSetV _ _ payload => payloadFits payload
  | .regSetI _ _ payload => payloadFits payload
  | .regTelemetry _ _ payload => payloadFits payload
  | .regTemp _ _ payload => payloadFits payload
  | .regOutEn _ _ payload => payloadFits payload
  | .regProtection _ _ payload => payloadFits payload
  | .regMode _ _ payload => payloadFits payload
  | .regAllState _ _ payload => payloadFits payload

end Sys2Proof
end

