-- ==== Sys2Proof/Decode.lean ====
section
/-! DEFINITION. The decoder of requests, total on any bytes and rejecting by name, the encoder, and the opcode table's rows.

The spec gives operation ids with typed operands and no byte layout (30_encoding.md R82). DESIGN CHOICE (log 4): an operation
request is its id byte, then the operands of fixed width in R82's order (a byte as itself, the 2-bit command as a byte, a 32-bit
word little-endian as R53 has every multi-byte value), then the byte string, which takes all bytes that remain. A request of the
formats `frame` and `register` is a whole wire frame (R71). -/

namespace Sys2Proof

open Machine

/-- Why bytes are no request that runs. -/
inductive DecodeError where
  /-- No byte at all. -/
  | empty
  /-- An operation id that R82 reserves. -/
  | reservedOp (id : Byte)
  /-- Fewer bytes than the operation's operands of fixed width. -/
  | truncated (id : Byte)
  /-- Bytes after the operands of an operation that takes no byte string. -/
  | trailing (id : Byte)
  /-- A command operand that does not fit in 2 bits (R78: it cannot occur). -/
  | cmdOperand (b : Byte)
  /-- A frame that does not pass `CODEC_VALIDATE` where a frame is asked for (R102). -/
  | badFrame (r : Invalid)
  /-- A frame whose header and command match no row of the table (R72, R73, R78). -/
  | noFrameRow (hdr cmd : Byte)
  /-- A register id outside the catalogue (R76, R78). -/
  | unknownRegister (reg : Byte)
  deriving DecidableEq, Repr

/-! ## Decoding -/

/-- The 2-bit command operand carried in a byte (R73). -/
def decodeCmd (b : Byte) : Option Cmd :=
  match b.toNat with
  | 0 => some .get
  | 1 => some .set
  | 2 => some .enable
  | 3 => some .baud
  | _ => none

/-- An operation without operands takes no further byte. -/
def noOperand (id : Byte) (rest : Bytes) (i : Instr) : Except DecodeError Instr :=
  match rest with
  | [] => .ok i
  | _ :: _ => .error (.trailing id)

/-- A 32-bit offset and then a byte string (R105 to R109). -/
def offsetAndString (id : Byte) (rest : Bytes) (mk : Bytes → Word → Instr) : Except DecodeError Instr :=
  match rest with
  | k0 :: k1 :: k2 :: k3 :: bs => .ok (mk bs (le32 [k0, k1, k2, k3] 0))
  | _ => .error (.truncated id)

/-- The operands after the operation id (R82). -/
def decodeOperands (id : Byte) (rest : Bytes) : Except DecodeError Instr :=
  match id.toNat with
  | 0x01 =>
    match rest with
    | reg :: len :: payload => .ok (.codecChecksum reg len payload)
    | _ => .error (.truncated id)
  | 0x02 =>
    match rest with
    | c :: reg :: payload =>
      match decodeCmd c with
      | some cmd => .ok (.codecEncode cmd reg payload)
      | none => .error (.cmdOperand c)
    | _ => .error (.truncated id)
  | 0x03 => .ok (.codecValidate rest)
  | 0x04 =>
    match rest with
    | [b0, b1, b2, b3] => .ok (.codecF32ToBytes (le32 [b0, b1, b2, b3] 0))
    | _ :: _ :: _ :: _ :: _ :: _ => .error (.trailing id)
    | _ => .error (.truncated id)
  | 0x10 => offsetAndString id rest .decodeF32
  | 0x11 => offsetAndString id rest .decodeU8
  | 0x12 => offsetAndString id rest .decodeBool
  | 0x13 => offsetAndString id rest .decodeProtection
  | 0x14 => offsetAndString id rest .decodeMode
  | 0x15 => .ok (.decodeTelemetry rest)
  | 0x16 => .ok (.decodeComposite rest)
  | 0x17 =>
    match rest with
    | reg :: payload => .ok (.decodeRegister reg payload)
    | [] => .error (.truncated id)
  | 0x20 => .ok (.framerPush rest)
  | 0x21 => noOperand id rest .framerReset
  | 0x30 => .ok (.seqEnqueue rest)
  | 0x31 => noOperand id rest .seqIssue
  | 0x32 => noOperand id rest .seqTick
  | 0x33 => noOperand id rest .linkOpen
  | 0x34 => noOperand id rest .linkClose
  | 0x40 =>
    match rest with
    | [idx] => .ok (.statusRead idx)
    | _ :: _ :: _ => .error (.trailing id)
    | [] => .error (.truncated id)
  | 0x41 => noOperand id rest .blockReset
  | _ => .error (.reservedOp id)

/-- An operation request (R82). -/
def decodeOp : Bytes → Except DecodeError Instr
  | [] => .error .empty
  | id :: rest => decodeOperands id rest

/-- A device-bound frame's row, by header and command byte (R72, R73). -/
def decodeOutbound (f : Frame) : Except DecodeError Instr :=
  if f.hdr = Config.hdrToDevice then
    match f.cmd.toNat with
    | 0xA1 => .ok (.frameGet f.reg f.payload)
    | 0xB1 => .ok (.frameSet f.reg f.payload)
    | 0xC1 => .ok (.frameEnable f.reg f.payload)
    | 0xB0 => .ok (.frameBaud f.reg f.payload)
    | _ => .error (.noFrameRow f.hdr f.cmd)
  else .error (.noFrameRow f.hdr f.cmd)

/-- A frame request (R81): the bytes of a host-bound frame, which the framer validates (R153, R160), or a whole device-bound
frame. -/
def decodeFrame : Bytes → Except DecodeError Instr
  | [] => .error .empty
  | hdr :: tail =>
    if hdr = Config.hdrToHost then .ok (.frameInbound tail)
    else
      match validate (hdr :: tail) with
      | .invalid r => .error (.badFrame r)
      | .valid f => decodeOutbound f

/-- The register rows (R76, R81): dispatch on the register byte alone. -/
def decodeCatalogue (f : Frame) : Except DecodeError Instr :=
  match f.reg.toNat with
  | 0xC0 => .ok (.regInputV f.hdr f.cmd f.payload)
  | 0xC1 => .ok (.regSetV f.hdr f.cmd f.payload)
  | 0xC2 => .ok (.regSetI f.hdr f.cmd f.payload)
  | 0xC3 => .ok (.regTelemetry f.hdr f.cmd f.payload)
  | 0xC4 => .ok (.regTemp f.hdr f.cmd f.payload)
  | 0xDB => .ok (.regOutEn f.hdr f.cmd f.payload)
  | 0xDC => .ok (.regProtection f.hdr f.cmd f.payload)
  | 0xDD => .ok (.regMode f.hdr f.cmd f.payload)
  | 0xFF => .ok (.regAllState f.hdr f.cmd f.payload)
  | _ => .error (.unknownRegister f.reg)

/-- A register request (R112): a valid frame, looked up by its register byte. -/
def decodeRegisterRow (bs : Bytes) : Except DecodeError Instr :=
  match validate bs with
  | .invalid r => .error (.badFrame r)
  | .valid f => decodeCatalogue f

/-- The decoder: total, on every request. -/
def decode (r : Request) : Except DecodeError Instr :=
  match r.fmt with
  | .op => decodeOp r.bytes
  | .frame => decodeFrame r.bytes
  | .register => decodeRegisterRow r.bytes

/-! ## Encoding -/

/-- An operation request: the id byte and its operands (R82). -/
def opRequest (id : Byte) (operands : Bytes) : Request := { fmt := .op, bytes := id :: operands }

/-- The command operand as a byte (R73). -/
def encodeCmd (cmd : Cmd) : Byte := (cmdCode cmd).setWidth 8

/-- A device-bound frame as a request (R71, R101). -/
def outboundRequest (cmd : Cmd) (reg : Byte) (payload : Bytes) : Request :=
  { fmt := .frame, bytes := frameBytes Config.hdrToDevice (cmdByte cmd) reg payload }

/-- A frame looked up by its register, as a request (R71, R81). -/
def registerRequest (hdr cmd reg : Byte) (payload : Bytes) : Request :=
  { fmt := .register, bytes := frameBytes hdr cmd reg payload }

/-- The request of an instruction. -/
def encode : Instr → Request
  | .codecChecksum reg len payload => opRequest 0x01 (reg :: len :: payload)
  | .codecEncode cmd reg payload => opRequest 0x02 (encodeCmd cmd :: reg :: payload)
  | .codecValidate cand => opRequest 0x03 cand
  | .codecF32ToBytes w => opRequest 0x04 (le32Bytes w)
  | .decodeF32 bs k => opRequest 0x10 (le32Bytes k ++ bs)
  | .decodeU8 bs k => opRequest 0x11 (le32Bytes k ++ bs)
  | .decodeBool bs k => opRequest 0x12 (le32Bytes k ++ bs)
  | .decodeProtection bs k => opRequest 0x13 (le32Bytes k ++ bs)
  | .decodeMode bs k => opRequest 0x14 (le32Bytes k ++ bs)
  | .decodeTelemetry bs => opRequest 0x15 bs
  | .decodeComposite bs => opRequest 0x16 bs
  | .decodeRegister reg payload => opRequest 0x17 (reg :: payload)
  | .framerPush chunk => opRequest 0x20 chunk
  | .framerReset => opRequest 0x21 []
  | .seqEnqueue cmd => opRequest 0x30 cmd
  | .seqIssue => opRequest 0x31 []
  | .seqTick => opRequest 0x32 []
  | .linkOpen => opRequest 0x33 []
  | .linkClose => opRequest 0x34 []
  | .statusRead idx => opRequest 0x40 [idx]
  | .blockReset => opRequest 0x41 []
  | .frameGet reg payload => outboundRequest .get reg payload
  | .frameSet reg payload => outboundRequest .set reg payload
  | .frameEnable reg payload => outboundRequest .enable reg payload
  | .frameBaud reg payload => outboundRequest .baud reg payload
  | .frameInbound tail => { fmt := .frame, bytes := Config.hdrToHost :: tail }
  | .regInputV hdr cmd payload => registerRequest hdr cmd 0xC0 payload
  | .regSetV hdr cmd payload => registerRequest hdr cmd 0xC1 payload
  | .regSetI hdr cmd payload => registerRequest hdr cmd 0xC2 payload
  | .regTelemetry hdr cmd payload => registerRequest hdr cmd 0xC3 payload
  | .regTemp hdr cmd payload => registerRequest hdr cmd 0xC4 payload
  | .regOutEn hdr cmd payload => registerRequest hdr cmd 0xDB payload
  | .regProtection hdr cmd payload => registerRequest hdr cmd 0xDC payload
  | .regMode hdr cmd payload => registerRequest hdr cmd 0xDD payload
  | .regAllState hdr cmd payload => registerRequest hdr cmd 0xFF payload

/-! ## The opcode table's rows -/

/-- A row: its format, `match` and `mask`. -/
structure Row where
  fmt : Format
  value : Nat
  mask : Nat
  deriving DecidableEq, Repr

/-- The row of spec/opcode_table.json each constructor stands for. -/
def Instr.row : Instr → Row
  | .codecChecksum _ _ _ => { fmt := .op, value := 0x01, mask := 0xFF }
  | .codecEncode _ _ _ => { fmt := .op, value := 0x02, mask := 0xFF }
  | .codecValidate _ => { fmt := .op, value := 0x03, mask := 0xFF }
  | .codecF32ToBytes _ => { fmt := .op, value := 0x04, mask := 0xFF }
  | .decodeF32 _ _ => { fmt := .op, value := 0x10, mask := 0xFF }
  | .decodeU8 _ _ => { fmt := .op, value := 0x11, mask := 0xFF }
  | .decodeBool _ _ => { fmt := .op, value := 0x12, mask := 0xFF }
  | .decodeProtection _ _ => { fmt := .op, value := 0x13, mask := 0xFF }
  | .decodeMode _ _ => { fmt := .op, value := 0x14, mask := 0xFF }
  | .decodeTelemetry _ => { fmt := .op, value := 0x15, mask := 0xFF }
  | .decodeComposite _ => { fmt := .op, value := 0x16, mask := 0xFF }
  | .decodeRegister _ _ => { fmt := .op, value := 0x17, mask := 0xFF }
  | .framerPush _ => { fmt := .op, value := 0x20, mask := 0xFF }
  | .framerReset => { fmt := .op, value := 0x21, mask := 0xFF }
  | .seqEnqueue _ => { fmt := .op, value := 0x30, mask := 0xFF }
  | .seqIssue => { fmt := .op, value := 0x31, mask := 0xFF }
  | .seqTick => { fmt := .op, value := 0x32, mask := 0xFF }
  | .linkOpen => { fmt := .op, value := 0x33, mask := 0xFF }
  | .linkClose => { fmt := .op, value := 0x34, mask := 0xFF }
  | .statusRead _ => { fmt := .op, value := 0x40, mask := 0xFF }
  | .blockReset => { fmt := .op, value := 0x41, mask := 0xFF }
  | .frameGet _ _ => { fmt := .frame, value := 0xF1A10000, mask := 0xFFFF0000 }
  | .frameSet _ _ => { fmt := .frame, value := 0xF1B10000, mask := 0xFFFF0000 }
  | .frameEnable _ _ => { fmt := .frame, value := 0xF1C10000, mask := 0xFFFF0000 }
  | .frameBaud _ _ => { fmt := .frame, value := 0xF1B00000, mask := 0xFFFF0000 }
  | .frameInbound _ => { fmt := .frame, value := 0xF0000000, mask := 0xFF000000 }
  | .regInputV _ _ _ => { fmt := .register, value := 0x0000C000, mask := 0x0000FF00 }
  | .regSetV _ _ _ => { fmt := .register, value := 0x0000C100, mask := 0x0000FF00 }
  | .regSetI _ _ _ => { fmt := .register, value := 0x0000C200, mask := 0x0000FF00 }
  | .regTelemetry _ _ _ => { fmt := .register, value := 0x0000C300, mask := 0x0000FF00 }
  | .regTemp _ _ _ => { fmt := .register, value := 0x0000C400, mask := 0x0000FF00 }
  | .regOutEn _ _ _ => { fmt := .register, value := 0x0000DB00, mask := 0x0000FF00 }
  | .regProtection _ _ _ => { fmt := .register, value := 0x0000DC00, mask := 0x0000FF00 }
  | .regMode _ _ _ => { fmt := .register, value := 0x0000DD00, mask := 0x0000FF00 }
  | .regAllState _ _ _ => { fmt := .register, value := 0x0000FF00, mask := 0x0000FF00 }

/-- The word a request is looked up by: an operation's id byte (R82), a frame's head word
`hdr << 24 | cmd << 16 | reg << 8 | len` (R81). -/
def Request.lookupWord (r : Request) : Nat :=
  match r.fmt with
  | .op => (byteAt r.bytes 0).toNat
  | .frame | .register =>
    (byteAt r.bytes 0).toNat <<< 24 ||| (byteAt r.bytes 1).toNat <<< 16 |||
      (byteAt r.bytes 2).toNat <<< 8 ||| (byteAt r.bytes 3).toNat

/-- A request matches a row when it is of the row's format and `word & mask = match` (R81, R82). -/
def Row.matchesRequest (row : Row) (r : Request) : Bool :=
  row.fmt == r.fmt && (r.lookupWord &&& row.mask) == row.value

/-! ## A word of the table as a request -/

/-- `n` zero bytes. -/
def zeroBytes (n : Nat) : Bytes := List.replicate n 0

/-- How many bytes of fixed width an operation's operands take; none for a reserved id (R82). -/
def opFixedBytes (id : Nat) : Option Nat :=
  match id with
  | 0x01 => some 2
  | 0x02 => some 2
  | 0x03 => some 0
  | 0x04 => some 4
  | 0x10 => some 4
  | 0x11 => some 4
  | 0x12 => some 4
  | 0x13 => some 4
  | 0x14 => some 4
  | 0x15 => some 0
  | 0x16 => some 0
  | 0x17 => some 1
  | 0x20 => some 0
  | 0x21 => some 0
  | 0x30 => some 0
  | 0x31 => some 0
  | 0x32 => some 0
  | 0x33 => some 0
  | 0x34 => some 0
  | 0x40 => some 1
  | 0x41 => some 0
  | _ => none

/-- The bytes of a word of the table, least significant first. -/
def wordBytes (nbits w : Nat) : Bytes := (List.range ((nbits + 7) / 8)).map fun j => BitVec.ofNat 8 (w >>> (8 * j))

/-- An operation's word with its missing operand bytes as zeros. -/
def tableOp (nbits w : Nat) : Request :=
  { fmt := .op
    bytes := wordBytes nbits w ++ zeroBytes (1 + (opFixedBytes (w % 256)).getD 0 - (nbits + 7) / 8) }

/-- The frame of a head word (R81): byte 0 is in bits 31..24, the payload is `len` zeros, and the checksum, which is derived
and no operand, is the one R75 gives. -/
def headFrame (h : Nat) : Bytes :=
  frameBytes (BitVec.ofNat 8 (h >>> 24)) (BitVec.ofNat 8 (h >>> 16)) (BitVec.ofNat 8 (h >>> 8)) (zeroBytes (h % 256))

/-- Whether a head word's header and command are those of a frame row (R72, R73). -/
def isFrameHead (h : Nat) : Bool :=
  match h >>> 24 % 256, h >>> 16 % 256 with
  | 0xF0, _ => true
  | 0xF1, 0xA1 => true
  | 0xF1, 0xB1 => true
  | 0xF1, 0xC1 => true
  | 0xF1, 0xB0 => true
  | _, _ => false

/-- Whether a head word's register byte is in the catalogue (R76). -/
def isRegisterHead (h : Nat) : Bool :=
  [0xC0, 0xC1, 0xC2, 0xC3, 0xC4, 0xDB, 0xDC, 0xDD, 0xFF].contains (h >>> 8 % 256)

/-- A word of spec/opcode_table.json as the request it stands for (log 16): a word of at most 16 bits with an operation id in
its low byte is an operation; a longer one is a head word, looked up as a frame first and by its register otherwise. -/
def tableRequest (nbits w : Nat) : Request :=
  let w := w % 2 ^ nbits
  if decide (nbits ≤ 16) && (opFixedBytes (w % 256)).isSome then tableOp nbits w
  else if isFrameHead w then { fmt := .frame, bytes := headFrame w }
  else if isRegisterHead w then { fmt := .register, bytes := headFrame w }
  else tableOp nbits w

/-- The instruction the decoder reads from a word of the table. -/
def decodeTableWord (nbits w : Nat) : Option Instr := (decode (tableRequest nbits w)).toOption

end Sys2Proof
end

