-- ==== Sys2Proof/Machine/State.lean ====
section
/-! DEFINITION. The state of the block (10_state.md R20 to R34), its output streams, its configuration and its host interface,
as plain data, with the state at power-on. -/

namespace Sys2Proof.Machine

/-- Framer mode (R22). -/
inductive FMode where
  | idle
  | collect
  deriving DecidableEq, Repr

/-- The 1-bit encoding of the framer mode (R22): IDLE 0, COLLECT 1. -/
def FMode.code : FMode → Word
  | .idle => 0
  | .collect => 1

/-- A queue entry (R25). -/
structure Entry where
  ticket : Word
  cmd : Bytes
  deriving DecidableEq, Repr

/-- A value an operation returns to its caller (R11 `return`). -/
inductive Value where
  /-- `CODEC_CHECKSUM` (R100). -/
  | byte (b : Byte)
  /-- `CODEC_ENCODE`, `CODEC_F32_TO_BYTES` (R101, R103). -/
  | bytes (bs : Bytes)
  /-- `CODEC_VALIDATE` (R102). -/
  | verdict (v : Verdict)
  /-- `DECODE_F32` (R105). -/
  | f32 (r : F32Read)
  /-- `DECODE_U8` (R106). -/
  | u8 (r : U8Read)
  /-- `DECODE_BOOL` (R107). -/
  | bool (r : BoolRead)
  /-- `DECODE_PROTECTION` (R108). -/
  | protection (r : EnumRead Prot)
  /-- `DECODE_MODE` (R109). -/
  | mode (r : EnumRead Mode)
  /-- `DECODE_TELEMETRY` (R110). -/
  | telemetry (t : Telemetry)
  /-- `DECODE_COMPOSITE` (R111). -/
  | composite (c : Option Composite)
  /-- `DECODE_REGISTER` (R112). -/
  | register (v : RegValue)
  /-- `SEQ_ENQUEUE` (R180). -/
  | ticket (t : Word)
  /-- `STATUS_READ` (R190). -/
  | status (w : Word)
  deriving DecidableEq, Repr

/-- What the last step answered its caller (log 12). -/
inductive Response where
  /-- The operation returns nothing. -/
  | nothing
  /-- The operation returned a value. -/
  | value (v : Value)
  /-- The block refused the operation request (60_exceptions.md R223). -/
  | fault (r : FaultReason)
  /-- The worker had no step to take (42_sequencer.md R182, log 10). -/
  | noStep
  /-- The bytes were no request of the spec and were dropped (log 14). -/
  | ignored (e : DecodeError)
  deriving DecidableEq, Repr

/-- The machine. -/
structure State where
  /-- The parameters (00_scope.md R6); the configuration mirrors, status 14 to 16 (R30). No step writes them (R31). -/
  cfg : Config
  /-- `fmode` (R22); status 0. -/
  fmode : FMode
  /-- `pending` (R23); its length is status 1. -/
  pending : Bytes
  /-- `queue` (R25), head first; its length is status 6. -/
  queue : List Entry
  /-- `delay`, 32 bits wide (R26, 60_exceptions.md R232); status 7. -/
  delay : Word
  /-- `link_up` (R27); status 8. -/
  linkUp : Bool
  /-- `next_ticket` (R28); status 13. -/
  nextTicket : Word
  /-- `CNT_CANDIDATES` (R30); status 2. -/
  cntCandidates : Word
  /-- `CNT_FRAMES_VALID` (R30); status 3. -/
  cntFramesValid : Word
  /-- `CNT_FRAMES_INVALID` (R30); status 4. -/
  cntFramesInvalid : Word
  /-- `CNT_FRAMER_OVERFLOW` (R30); status 5. -/
  cntFramerOverflow : Word
  /-- `CNT_TX_OK` (R30); status 9. -/
  cntTxOk : Word
  /-- `CNT_TX_FAIL` (R30); status 10. -/
  cntTxFail : Word
  /-- `CNT_DROPPED` (R30); status 11. -/
  cntDropped : Word
  /-- `CNT_REJECTED` (R30); status 12. -/
  cntRejected : Word
  /-- The stream `frame_out`, oldest event first (R32). -/
  frameOut : List (Stamped FrameOut)
  /-- The stream `log` (R32). -/
  log : List (Stamped LogEvent)
  /-- The stream `link_tx` (R32). -/
  linkTx : List (Stamped LinkTx)
  /-- The stream `completion` (R32). -/
  completion : List (Stamped Completion)
  /-- The step counter events carry (60_exceptions.md R231): how many requests have been served. -/
  stepNo : Nat
  /-- How many events have been appended to the four streams (R231, log 13). -/
  eventNo : Nat
  /-- The MODEL's own: which free answer of the link controller is drawn next (log 11). -/
  draws : Nat
  /-- The MODEL's own: the requests still to be served, in the order the agents' steps are taken (log 3). -/
  requests : List Request
  /-- The MODEL's own: what the last step answered (log 12). -/
  response : Response
  deriving DecidableEq, Repr

/-- Why the machine stops: never. "None of them stops the block" (60_exceptions.md R220), and the spec's own faults (R223) refuse
one request, after which the block goes on (log 9). -/
inductive Fault : Type
  deriving DecidableEq, Repr

/-- Why the model gives no meaning. -/
inductive Refusal where
  /-- Raised by `exec` on an instruction that has no meaning yet. Safe: no next state. No arm raises it. -/
  | notModelled (mnemonic : String)
  /-- Raised by `step` on an illegal configuration, as 00_scope.md R7 asks (log 18). Safe: no next state. -/
  | illegalConfiguration
  deriving DecidableEq, Repr

/-- The state at power-on (R34, 70_reset_and_hazards.md R251), of the configuration R6's table gives. The fields of the
model's own start empty (DESIGN CHOICE, logs 3, 11, 12, 13). -/
def State.reset : State :=
  { cfg := Config.default
    fmode := .idle
    pending := []
    queue := []
    delay := 0
    linkUp := false
    nextTicket := 0
    cntCandidates := 0
    cntFramesValid := 0
    cntFramesInvalid := 0
    cntFramerOverflow := 0
    cntTxOk := 0
    cntTxFail := 0
    cntDropped := 0
    cntRejected := 0
    frameOut := []
    log := []
    linkTx := []
    completion := []
    stepNo := 0
    eventNo := 0
    draws := 0
    requests := []
    response := .nothing }

end Sys2Proof.Machine
end

