-- ==== Sys2Proof/Machine/Ops.lean ====
section
/-! DEFINITION. The operations the meanings share: appending events (10_state.md R32, R231), answering the caller, refusing a
request (60_exceptions.md R223), the internal steps of the framer (41_framer.md R151, R152, R153, R156) and of the sequencer
(42_sequencer.md R183, R184), the status registers (R30), and taking the next request. -/

namespace Sys2Proof.Machine

/-- The outcome of a step of this machine. -/
abbrev Result := Host.Outcome State Fault Refusal

/-! ## Output events: `emit` (00_scope.md R11). Each event carries the step counter and its own number (R231). -/

/-- `emit frame_out(f)`. -/
def State.emitFrame (s : State) (f : FrameOut) : State :=
  { s with frameOut := s.frameOut ++ [{ step := s.stepNo, seq := s.eventNo, ev := f }], eventNo := s.eventNo + 1 }

/-- `emit log(code, info)`. -/
def State.emitLog (s : State) (e : LogEvent) : State :=
  { s with log := s.log ++ [{ step := s.stepNo, seq := s.eventNo, ev := e }], eventNo := s.eventNo + 1 }

/-- `emit link_tx(bytes, outcome)`. -/
def State.emitTx (s : State) (e : LinkTx) : State :=
  { s with linkTx := s.linkTx ++ [{ step := s.stepNo, seq := s.eventNo, ev := e }], eventNo := s.eventNo + 1 }

/-- `emit completion(ticket, status)`. -/
def State.emitCompletion (s : State) (e : Completion) : State :=
  { s with completion := s.completion ++ [{ step := s.stepNo, seq := s.eventNo, ev := e }], eventNo := s.eventNo + 1 }

/-- The warnings of a codec operation, in order (R115). -/
def State.emitLogs (s : State) (es : List LogEvent) : State := es.foldl State.emitLog s

/-! ## Answers -/

/-- `return v`. -/
def State.answer (s : State) (v : Value) : State := { s with response := .value v }

/-- The operation ends and returns nothing. -/
def State.done (s : State) : State := { s with response := .nothing }

/-- `raise Fault(reason)` (R11, R223): "The refused step changes no state, appends no event and returns the fault reason to its
caller." The block has no trap entry (R225), so this is all there is to take and nothing to return from (R226). -/
def State.raiseFault (s : State) (r : FaultReason) : State := { s with response := .fault r }

/-- The worker's turn where `SEQ_ISSUE` is not enabled: "otherwise no step" (R182, R183, log 10). -/
def State.passTurn (s : State) : State := { s with response := .noStep }

/-- A pure codec operation (R115): its warnings go to `log`, its value to the caller, and nothing else changes. -/
def State.answerLogged {α : Type} (s : State) (f : α → Value) (r : Logged α) : State :=
  (s.emitLogs r.warns).answer (f r.val)

/-- `CODEC_ENCODE` (R101). -/
def State.answerEncode (s : State) (cmd : Cmd) (reg : Byte) (payload : Bytes) : State :=
  match encodeFrame cmd reg payload with
  | some frame => s.answer (.bytes frame)
  | none => s.raiseFault .encodeTooLong

/-- `DECODE_REGISTER` (R112). -/
def State.answerRegister (s : State) (reg : Byte) (payload : Bytes) : State :=
  s.answerLogged .register (readRegister s.cfg.f32Sentinel reg payload)

/-! ## The framer -/

/-- `HANDOFF(c)` (R153): validate a candidate and route it. -/
def State.handoff (s : State) (c : Bytes) : State :=
  match validate c with
  | .valid f =>
    State.emitFrame { s with cntCandidates := s.cntCandidates + 1, cntFramesValid := s.cntFramesValid + 1 }
      { raw := c, hdr := f.hdr, cmd := f.cmd, reg := f.reg, len := f.len, payload := f.payload }
  | .invalid r =>
    State.emitLog { s with cntCandidates := s.cntCandidates + 1, cntFramesInvalid := s.cntFramesInvalid + 1 }
      { code := r.logCode, info := lengthInfo c.length }

/-- `FRAMER_CLEAR()` (R156). -/
def State.framerClear (s : State) : State := { s with pending := [], fmode := .idle }

/-- `FRAMER_BYTE(b)` for the sentinel (R152). -/
def State.framerSentinel (s : State) : State :=
  match s.fmode with
  | .idle => { s with pending := [Config.sentinel], fmode := .collect }
  | .collect => { s.handoff s.pending with pending := [Config.sentinel], fmode := .collect }

/-- The overflow of `pending` (R151): the open candidate is dropped and logged. -/
def State.framerOverflow (s : State) : State :=
  let t := s.emitLog { code := .framerOverflow, info := lengthInfo (s.pending.length + 1) }
  { t with cntFramerOverflow := t.cntFramerOverflow + 1, pending := [], fmode := .idle }

/-- `FRAMER_BYTE(b)` for a byte other than the sentinel (R151). -/
def State.framerData (s : State) (b : Byte) : State :=
  match s.fmode with
  | .idle => s
  | .collect =>
    if s.pending.length < s.cfg.framerCap then { s with pending := s.pending ++ [b] } else s.framerOverflow

/-- `FRAMER_BYTE(b)` (R150, R151, R152). -/
def State.framerByte (s : State) (b : Byte) : State :=
  if b = Config.sentinel then s.framerSentinel else s.framerData b

/-! ## The sequencer -/

/-- One entry of `SEQ_FLUSH` (R184). -/
def State.dropEntry (s : State) (e : Entry) : State :=
  let t : State := { s with cntDropped := s.cntDropped + 1 }
  (t.emitCompletion { ticket := e.ticket, status := .dropped }).emitLog { code := .seqDropped, info := e.ticket }

/-- `SEQ_FLUSH()` (R184). -/
def State.flush (s : State) : State := { s.queue.foldl State.dropEntry s with queue := [] }

/-- The rejection of an enqueue (R180): the ticket is used up, the completion and the log follow. -/
def State.reject (s : State) (log : LogEvent) : State :=
  let t : State := { s with nextTicket := s.nextTicket + 1, cntRejected := s.cntRejected + 1 }
  ((t.emitCompletion { ticket := s.nextTicket, status := .rejected }).emitLog log).answer (.ticket s.nextTicket)

/-- The acceptance of an enqueue (R180). -/
def State.accept (s : State) (cmd : Bytes) : State :=
  let t : State := { s with nextTicket := s.nextTicket + 1, queue := s.queue ++ [{ ticket := s.nextTicket, cmd := cmd }] }
  t.answer (.ticket s.nextTicket)

/-- The outcome of a transmit and the state with the draw made (R183): FAIL while the link is down, the link controller's
free answer while it is up (log 11). -/
def State.drawOutcome (s : State) : TxOutcome × State :=
  if s.linkUp then (Config.linkAnswer s.draws, { s with draws := s.draws + 1 }) else (.fail, s)

/-- The transmit of the entry `e` with outcome `o` (R183), the queue already without `e`. `delay` is 32 bits wide (R232), so
`DELAY_TICKS` is loaded modulo 2^32 (R9, log 2). -/
def State.transmit (s : State) (e : Entry) (o : TxOutcome) : State :=
  let t := s.emitTx { bytes := e.cmd, outcome := o }
  let t : State := { t with delay := BitVec.ofNat 32 t.cfg.delayTicks }
  match o with
  | .ok => State.emitCompletion { t with cntTxOk := t.cntTxOk + 1 } { ticket := e.ticket, status := .ok }
  | .fail =>
    let u := State.emitCompletion { t with cntTxFail := t.cntTxFail + 1 } { ticket := e.ticket, status := .txFailed }
    (u.emitLog { code := .seqTxFailed, info := e.ticket }).flush

/-- Dequeue and transmit the head of the queue (R183). -/
def State.issue (s : State) (e : Entry) (rest : List Entry) : State :=
  let d := State.drawOutcome { s with queue := rest }
  d.2.transmit e d.1

/-! ## Status -/

/-- `STATUS[idx]` for 0..16, and 0 for the other indices (R30, R190). -/
def State.statusReg (s : State) (idx : Byte) : Word :=
  match idx.toNat with
  | 0 => s.fmode.code
  | 1 => lengthInfo s.pending.length
  | 2 => s.cntCandidates
  | 3 => s.cntFramesValid
  | 4 => s.cntFramesInvalid
  | 5 => s.cntFramerOverflow
  | 6 => lengthInfo s.queue.length
  | 7 => s.delay
  | 8 => if s.linkUp then 1 else 0
  | 9 => s.cntTxOk
  | 10 => s.cntTxFail
  | 11 => s.cntDropped
  | 12 => s.cntRejected
  | 13 => s.nextTicket
  | 14 => lengthInfo s.cfg.delayTicks
  | 15 => lengthInfo s.cfg.framerCap
  | 16 => lengthInfo s.cfg.seqQcap
  | _ => 0

/-- `BLOCK_RESET` after its flush and its clear (R250): the registers at their reset values, the counters zeroed last. -/
def State.zeroRegisters (s : State) : State :=
  { s with
    delay := 0, linkUp := false, nextTicket := 0
    cntCandidates := 0, cntFramesValid := 0, cntFramesInvalid := 0, cntFramerOverflow := 0
    cntTxOk := 0, cntTxFail := 0, cntDropped := 0, cntRejected := 0 }

/-! ## Requests -/

/-- Take the next request: the step counter advances (R231, log 3). -/
def State.takeRequest (s : State) (rest : List Request) : State := { s with requests := rest, stepNo := s.stepNo + 1 }

/-- Bytes that are no request are dropped: "Malformed frames are dropped silently, never raised as fatal errors" (40_codec.md
R102), and no error stops the block (60_exceptions.md R220, log 14). -/
def State.ignore (s : State) (e : DecodeError) : State := { s with response := .ignored e }

/-- A request that decodes to no instruction. A reserved id is refused by R223, an unknown register id is "ignored without
error" and read as UNKNOWN (R78, R112, log 15), and other bytes are dropped (log 14). -/
def State.rejectRequest (s : State) (e : DecodeError) : State :=
  match e with
  | .reservedOp _ => s.raiseFault .reservedOp
  | .unknownRegister reg => s.answer (.register (.unknown reg))
  | .empty => s.ignore e
  | .truncated _ => s.ignore e
  | .trailing _ => s.ignore e
  | .cmdOperand _ => s.ignore e
  | .badFrame _ => s.ignore e
  | .noFrameRow _ _ => s.ignore e

end Sys2Proof.Machine
end

