-- ==== Sys2Proof/Machine/Codec.lean ====
section
/-! DEFINITION. The Frame Codec: checksum, encode, validate, float32 layout (40_codec.md R100 to R103). Pure operations (R115). -/

namespace Sys2Proof.Machine

/-- `CODEC_CHECKSUM` (R100): `len` is taken as given. -/
def execCodecChecksum (reg len : Byte) (payload : Bytes) (s : State) : Result :=
  .next (s.answer (.byte (checksum reg len payload)))

/-- `CODEC_ENCODE` (R101). -/
def execCodecEncode (cmd : Cmd) (reg : Byte) (payload : Bytes) (s : State) : Result :=
  .next (s.answerEncode cmd reg payload)

/-- `CODEC_VALIDATE` (R102): it writes no log. -/
def execCodecValidate (cand : Bytes) (s : State) : Result :=
  .next (s.answer (.verdict (validate cand)))

/-- `CODEC_F32_TO_BYTES` (R103). -/
def execCodecF32ToBytes (w : Word) (s : State) : Result :=
  .next (s.answer (.bytes (le32Bytes w)))

end Sys2Proof.Machine
end

