-- ==== Sys2Proof/Machine/Control.lean ====
section
/-! DEFINITION. Status reads (42_sequencer.md R190) and the block's reset (70_reset_and_hazards.md R250). -/

namespace Sys2Proof.Machine

/-- `STATUS_READ(idx)` (R190): no side effect (R58). -/
def execStatusRead (idx : Byte) (s : State) : Result :=
  .next (s.answer (.status (s.statusReg idx)))

/-- `BLOCK_RESET` (R250). The output streams, their counters, the configuration and the requests still to be served stay
(R34, log 19). -/
def execBlockReset (s : State) : Result :=
  .next s.flush.framerClear.zeroRegisters.done

end Sys2Proof.Machine
end

