-- ==== Sys2Proof/Machine/Decoders.lean ====
section
/-! DEFINITION. The typed payload decoders (40_codec.md R105 to R112): their values are pure, their short reads are logged (R115). -/

namespace Sys2Proof.Machine

/-- `DECODE_F32` (R105). -/
def execDecodeF32 (bs : Bytes) (k : Word) (s : State) : Result :=
  .next (s.answerLogged .f32 (readF32 s.cfg.f32Sentinel bs k))

/-- `DECODE_U8` (R106). -/
def execDecodeU8 (bs : Bytes) (k : Word) (s : State) : Result :=
  .next (s.answerLogged .u8 (readU8 bs k))

/-- `DECODE_BOOL` (R107). -/
def execDecodeBool (bs : Bytes) (k : Word) (s : State) : Result :=
  .next (s.answerLogged .bool (readBool bs k))

/-- `DECODE_PROTECTION` (R108). -/
def execDecodeProtection (bs : Bytes) (k : Word) (s : State) : Result :=
  .next (s.answerLogged .protection (readProtection bs k))

/-- `DECODE_MODE` (R109). -/
def execDecodeMode (bs : Bytes) (k : Word) (s : State) : Result :=
  .next (s.answerLogged .mode (readMode bs k))

/-- `DECODE_TELEMETRY` (R110). -/
def execDecodeTelemetry (bs : Bytes) (s : State) : Result :=
  .next (s.answerLogged .telemetry (readTelemetry s.cfg.f32Sentinel bs))

/-- `DECODE_COMPOSITE` (R111). -/
def execDecodeComposite (bs : Bytes) (s : State) : Result :=
  .next (s.answerLogged .composite (readComposite bs))

/-- `DECODE_REGISTER` (R112). -/
def execDecodeRegister (reg : Byte) (payload : Bytes) (s : State) : Result :=
  .next (s.answerRegister reg payload)

end Sys2Proof.Machine
end

