-- ==== Sys2Proof/Machine/Framer.lean ====
section
/-! DEFINITION. The Stream Framer's operations (41_framer.md R154, R155). -/

namespace Sys2Proof.Machine

/-- `FRAMER_PUSH(chunk)` (R154): `FRAMER_BYTE` over the chunk, in order, in one step (20_memory.md R56). -/
def execFramerPush (chunk : Bytes) (s : State) : Result :=
  .next (chunk.foldl State.framerByte s).done

/-- `FRAMER_RESET` (R155). -/
def execFramerReset (s : State) : Result :=
  .next s.framerClear.done

end Sys2Proof.Machine
end

