-- ==== Sys2Proof/Machine/Frames.lean ====
section
/-! DEFINITION. The rows of format `frame`. A device-bound frame is the one `CODEC_ENCODE` builds with the row's command
(40_codec.md R101; log 6). A host-bound one is received by the framer (41_framer.md R153, R160; log 7). -/

namespace Sys2Proof.Machine

/-- `FRAME_GET` (R101), command operand 0. -/
def execFrameGet (reg : Byte) (payload : Bytes) (s : State) : Result :=
  .next (s.answerEncode .get reg payload)

/-- `FRAME_SET` (R101), command operand 1. -/
def execFrameSet (reg : Byte) (payload : Bytes) (s : State) : Result :=
  .next (s.answerEncode .set reg payload)

/-- `FRAME_ENABLE` (R101), command operand 2. -/
def execFrameEnable (reg : Byte) (payload : Bytes) (s : State) : Result :=
  .next (s.answerEncode .enable reg payload)

/-- `FRAME_BAUD` (R101), command operand 3. -/
def execFrameBaud (reg : Byte) (payload : Bytes) (s : State) : Result :=
  .next (s.answerEncode .baud reg payload)

/-- `FRAME_INBOUND`: the bytes of a host-bound frame reach the framer as received bytes do (R154, R160). It is held until the
sentinel that follows it arrives, and handed off then (R153, R159). -/
def execFrameInbound (tail : Bytes) (s : State) : Result :=
  .next ((Config.hdrToHost :: tail).foldl State.framerByte s).done

end Sys2Proof.Machine
end

