-- ==== Sys2Proof/Machine/Registers.lean ====
section
/-! DEFINITION. The rows of format `register` (30_encoding.md R76): a valid frame's payload decoded by its register id
(40_codec.md R112; log 8). "The header and command of the frame are not consulted", so they are operands no meaning reads. -/

namespace Sys2Proof.Machine

/-- `REG_INPUT_V` (R112, R76): `DECODE_F32 at 0`. -/
def execRegInputV (_hdr _cmd : Byte) (payload : Bytes) (s : State) : Result :=
  .next (s.answerRegister 0xC0 payload)

/-- `REG_SET_V` (R112, R76): `DECODE_F32 at 0`. -/
def execRegSetV (_hdr _cmd : Byte) (payload : Bytes) (s : State) : Result :=
  .next (s.answerRegister 0xC1 payload)

/-- `REG_SET_I` (R112, R76): `DECODE_F32 at 0`. -/
def execRegSetI (_hdr _cmd : Byte) (payload : Bytes) (s : State) : Result :=
  .next (s.answerRegister 0xC2 payload)

/-- `REG_TELEMETRY` (R112, R76): `DECODE_TELEMETRY`. -/
def execRegTelemetry (_hdr _cmd : Byte) (payload : Bytes) (s : State) : Result :=
  .next (s.answerRegister 0xC3 payload)

/-- `REG_TEMP` (R112, R76): `DECODE_F32 at 0`. -/
def execRegTemp (_hdr _cmd : Byte) (payload : Bytes) (s : State) : Result :=
  .next (s.answerRegister 0xC4 payload)

/-- `REG_OUT_EN` (R112, R76): `DECODE_BOOL at 0`. -/
def execRegOutEn (_hdr _cmd : Byte) (payload : Bytes) (s : State) : Result :=
  .next (s.answerRegister 0xDB payload)

/-- `REG_PROTECTION` (R112, R76): `DECODE_PROTECTION at 0`. -/
def execRegProtection (_hdr _cmd : Byte) (payload : Bytes) (s : State) : Result :=
  .next (s.answerRegister 0xDC payload)

/-- `REG_MODE` (R112, R76): `DECODE_MODE at 0`. -/
def execRegMode (_hdr _cmd : Byte) (payload : Bytes) (s : State) : Result :=
  .next (s.answerRegister 0xDD payload)

/-- `REG_ALL_STATE` (R112, R76): `DECODE_COMPOSITE`. -/
def execRegAllState (_hdr _cmd : Byte) (payload : Bytes) (s : State) : Result :=
  .next (s.answerRegister 0xFF payload)

end Sys2Proof.Machine
end

