-- ==== Sys2Proof/Machine/Sequencer.lean ====
section
/-! DEFINITION. The Command Sequencer and the link events (42_sequencer.md R180 to R187). -/

namespace Sys2Proof.Machine

/-- `SEQ_ENQUEUE(cmd)` (R180): bad length, then queue full (R229), then acceptance. -/
def execSeqEnqueue (cmd : Bytes) (s : State) : Result :=
  if cmd.length < 1 ∨ cmd.length > Config.seqMaxCmd then
    .next (s.reject { code := .seqBadCmdLength, info := lengthInfo cmd.length })
  else if s.queue.length = s.cfg.seqQcap then
    .next (s.reject { code := .seqQueueFull, info := s.nextTicket })
  else
    .next (s.accept cmd)

/-- `SEQ_ISSUE` (R183), enabled exactly when the queue is not empty and `delay = 0` (R182). -/
def execSeqIssue (s : State) : Result :=
  match s.queue with
  | [] => .next s.passTurn
  | e :: rest => if s.delay = 0 then .next (s.issue e rest).done else .next s.passTurn

/-- `SEQ_TICK` (R185). -/
def execSeqTick (s : State) : Result :=
  .next (if s.delay > 0 then State.done { s with delay := s.delay - 1 } else s.done)

/-- `LINK_OPEN` (R186). -/
def execLinkOpen (s : State) : Result :=
  .next (State.done { s with linkUp := true })

/-- `LINK_CLOSE` (R187). -/
def execLinkClose (s : State) : Result :=
  .next (State.flush { s with linkUp := false }).framerClear.done

end Sys2Proof.Machine
end

