-- ==== Sys2Proof/Machine/Dispatch.lean ====
section
/-! DEFINITION. Dispatch: one arm per constructor of `Instr`. -/

namespace Sys2Proof.Machine

def exec (i : Instr) (s : State) : Host.Outcome State Fault Refusal :=
  match i with
  -- operations (30_encoding.md R82)
  | .codecChecksum reg len payload => Sys2Proof.Machine.execCodecChecksum reg len payload s
  | .codecEncode cmd reg payload => Sys2Proof.Machine.execCodecEncode cmd reg payload s
  | .codecValidate cand => Sys2Proof.Machine.execCodecValidate cand s
  | .codecF32ToBytes w => Sys2Proof.Machine.execCodecF32ToBytes w s
  | .decodeF32 bs k => Sys2Proof.Machine.execDecodeF32 bs k s
  | .decodeU8 bs k => Sys2Proof.Machine.execDecodeU8 bs k s
  | .decodeBool bs k => Sys2Proof.Machine.execDecodeBool bs k s
  | .decodeProtection bs k => Sys2Proof.Machine.execDecodeProtection bs k s
  | .decodeMode bs k => Sys2Proof.Machine.execDecodeMode bs k s
  | .decodeTelemetry bs => Sys2Proof.Machine.execDecodeTelemetry bs s
  | .decodeComposite bs => Sys2Proof.Machine.execDecodeComposite bs s
  | .decodeRegister reg payload => Sys2Proof.Machine.execDecodeRegister reg payload s
  | .framerPush chunk => Sys2Proof.Machine.execFramerPush chunk s
  | .framerReset => Sys2Proof.Machine.execFramerReset s
  | .seqEnqueue cmd => Sys2Proof.Machine.execSeqEnqueue cmd s
  | .seqIssue => Sys2Proof.Machine.execSeqIssue s
  | .seqTick => Sys2Proof.Machine.execSeqTick s
  | .linkOpen => Sys2Proof.Machine.execLinkOpen s
  | .linkClose => Sys2Proof.Machine.execLinkClose s
  | .statusRead idx => Sys2Proof.Machine.execStatusRead idx s
  | .blockReset => Sys2Proof.Machine.execBlockReset s
  -- frames (R81)
  | .frameGet reg payload => Sys2Proof.Machine.execFrameGet reg payload s
  | .frameSet reg payload => Sys2Proof.Machine.execFrameSet reg payload s
  | .frameEnable reg payload => Sys2Proof.Machine.execFrameEnable reg payload s
  | .frameBaud reg payload => Sys2Proof.Machine.execFrameBaud reg payload s
  | .frameInbound tail => Sys2Proof.Machine.execFrameInbound tail s
  -- registers (R81)
  | .regInputV hdr cmd payload => Sys2Proof.Machine.execRegInputV hdr cmd payload s
  | .regSetV hdr cmd payload => Sys2Proof.Machine.execRegSetV hdr cmd payload s
  | .regSetI hdr cmd payload => Sys2Proof.Machine.execRegSetI hdr cmd payload s
  | .regTelemetry hdr cmd payload => Sys2Proof.Machine.execRegTelemetry hdr cmd payload s
  | .regTemp hdr cmd payload => Sys2Proof.Machine.execRegTemp hdr cmd payload s
  | .regOutEn hdr cmd payload => Sys2Proof.Machine.execRegOutEn hdr cmd payload s
  | .regProtection hdr cmd payload => Sys2Proof.Machine.execRegProtection hdr cmd payload s
  | .regMode hdr cmd payload => Sys2Proof.Machine.execRegMode hdr cmd payload s
  | .regAllState hdr cmd payload => Sys2Proof.Machine.execRegAllState hdr cmd payload s

end Sys2Proof.Machine
end

