-- ==== Sys2Proof/Machine/Step.lean ====
section
/-! DEFINITION. One step: the next request is taken, decoded and run (00_scope.md R12, R13; log 3). -/

namespace Sys2Proof.Machine

/-- Run one request: its instruction, or the answer to bytes that decode to none. -/
def serve (r : Request) (s : State) : Host.Outcome State Fault Refusal :=
  match decode r with
  | .ok i => exec i s
  | .error e => .next (s.rejectRequest e)

/-- One step. An illegal configuration is refused (R7). With no request no agent takes a step and the block waits (R234). -/
def step (s : State) : Host.Outcome State Fault Refusal :=
  if s.cfg.legal then
    match s.requests with
    | [] => .next s
    | r :: rest => serve r (s.takeRequest rest)
  else .refused .illegalConfiguration

/-- `s` with a word of the opcode table as the request that the next step serves. -/
def State.withFetchWord (s : State) (nbits w : Nat) : State :=
  { s with requests := tableRequest nbits w :: s.requests }

end Sys2Proof.Machine
end

