-- ==== Sys2Proof/Safety.lean ====
section
/-! DEFINITION. What claims about the block are stated in: the invariants of its state, runs of instructions, and the source's own
splitting of a byte stream (41_framer.md R162). -/

namespace Sys2Proof.Machine

/-! ## Invariants -/

/-- R24, the framer invariant, clause by clause. -/
abbrev State.FramerInv (s : State) : Prop :=
  (s.fmode = .idle ↔ s.pending = []) ∧
  (s.fmode = .collect →
    s.pending.head? = some Config.sentinel ∧ (∀ b ∈ s.pending.tail, b ≠ Config.sentinel) ∧
      1 ≤ s.pending.length ∧ s.pending.length ≤ s.cfg.framerCap)

/-- R25: at most `SEQ_QCAP` entries, each of 1..`SEQ_MAX_CMD` bytes. -/
abbrev State.QueueInv (s : State) : Prop :=
  s.queue.length ≤ s.cfg.seqQcap ∧ ∀ e ∈ s.queue, 1 ≤ e.cmd.length ∧ e.cmd.length ≤ Config.seqMaxCmd

/-- R26: `delay` is 0..`DELAY_TICKS`. -/
abbrev State.DelayInv (s : State) : Prop := s.delay.toNat ≤ s.cfg.delayTicks

/-- R153: every candidate is counted once more, as valid or as invalid (modulo 2^32, R30). -/
abbrev State.CountInv (s : State) : Prop := s.cntCandidates = s.cntFramesValid + s.cntFramesInvalid

/-- R102, R153, R158: every event of `frame_out` is a valid frame whose fields are the ones its bytes parse to, starts with the
sentinel and holds no other. -/
abbrev State.OutputInv (s : State) : Prop :=
  ∀ e ∈ s.frameOut,
    validate e.ev.raw =
        .valid { hdr := e.ev.hdr, cmd := e.ev.cmd, reg := e.ev.reg, len := e.ev.len, payload := e.ev.payload } ∧
      e.ev.raw.head? = some Config.sentinel ∧ ∀ b ∈ e.ev.raw.tail, b ≠ Config.sentinel

/-- The numbers the events of the four streams carry. -/
def State.eventNumbers (s : State) : List Nat :=
  s.frameOut.map (·.seq) ++ s.log.map (·.seq) ++ s.linkTx.map (·.seq) ++ s.completion.map (·.seq)

/-- The steps the events of the four streams carry. -/
def State.eventSteps (s : State) : List Nat :=
  s.frameOut.map (·.step) ++ s.log.map (·.step) ++ s.linkTx.map (·.step) ++ s.completion.map (·.step)

/-- R231 (as log 13 reads it): the event numbers below `eventNo` are each carried by exactly one event, each stream is in the
order of its numbers, and no event is of a step still to come. -/
abbrev State.StampInv (s : State) : Prop :=
  s.eventNumbers.Perm (List.range s.eventNo) ∧
  (s.frameOut.map (·.seq)).Pairwise (· < ·) ∧ (s.log.map (·.seq)).Pairwise (· < ·) ∧
  (s.linkTx.map (·.seq)).Pairwise (· < ·) ∧ (s.completion.map (·.seq)).Pairwise (· < ·) ∧
  ∀ n ∈ s.eventSteps, n ≤ s.stepNo

/-- The invariant of the block. -/
abbrev State.Inv (s : State) : Prop :=
  s.FramerInv ∧ s.QueueInv ∧ s.DelayInv ∧ s.CountInv ∧ s.OutputInv ∧ s.StampInv

/-! ## Runs -/

/-- The instructions of a list, one after another, stopping at the first fault or refusal. Any list is a schedule of the
agents' steps (60_exceptions.md R230). -/
def execAll : List Instr → State → Host.Outcome State Fault Refusal
  | [], s => .next s
  | i :: is, s =>
    match exec i s with
    | .next t => execAll is t
    | .fault r => .fault r
    | .refused r => .refused r

/-- The commands a run's `SEQ_ENQUEUE` steps carry, in order, accepted or not (42_sequencer.md R180). -/
def enqueuedCommands : List Instr → List Bytes
  | [] => []
  | .seqEnqueue cmd :: is => cmd :: enqueuedCommands is
  | _ :: is => enqueuedCommands is

/-- The bytes a run receives from the link, in order (41_framer.md R158): its pushes, and its host-bound frames (log 7). -/
def receivedBytes : List Instr → Bytes
  | [] => []
  | .framerPush chunk :: is => chunk ++ receivedBytes is
  | .frameInbound tail :: is => Config.hdrToHost :: tail ++ receivedBytes is
  | _ :: is => receivedBytes is

/-- A safe run: each of `k` steps answers a next state. -/
def SafeFor (k : Nat) (s : State) : Prop :=
  match k with
  | 0 => True
  | k + 1 => ∃ t, step s = .next t ∧ SafeFor k t

/-- The event `ev` as the `j`-th appended after those the state holds, in the step the state is in (R231). -/
def State.stamp (s : State) (j : Nat) {α : Type} (ev : α) : Stamped α := { step := s.stepNo, seq := s.eventNo + j, ev := ev }

/-- The `frame_out` event of a candidate that parses to `f` (R153): the exact bytes and the parsed fields. -/
def Frame.emitted (f : Frame) (raw : Bytes) : FrameOut :=
  { raw := raw, hdr := f.hdr, cmd := f.cmd, reg := f.reg, len := f.len, payload := f.payload }

/-- `log` events as one step appends them one after another from event number `n` on (R231). -/
def stampedLogs (step n : Nat) (es : List LogEvent) : List (Stamped LogEvent) :=
  es.mapIdx fun j e => { step := step, seq := n + j, ev := e }

/-- The completions `SEQ_FLUSH` appends for a queue from event number `n` on (42_sequencer.md R184): one per entry, each
followed by its log. -/
def flushCompletions (step n : Nat) (queue : List Entry) : List (Stamped Completion) :=
  queue.mapIdx fun j e => { step := step, seq := n + 2 * j, ev := { ticket := e.ticket, status := .dropped } }

/-- The logs `SEQ_FLUSH` appends for a queue from event number `n` on (R184). -/
def flushLogs (step n : Nat) (queue : List Entry) : List (Stamped LogEvent) :=
  queue.mapIdx fun j e => { step := step, seq := n + 2 * j + 1, ev := { code := .seqDropped, info := e.ticket } }

/-! ## The source's splitting -/

/-- The candidates of a byte sequence as the source's algorithm has them (R158, R162): "the span between" two successive
sentinels, "inclusive of the first, exclusive of the second". What precedes the first sentinel and what follows the last is
no span. No capacity bounds it. -/
def sentinelSpans (x : Bytes) : List Bytes :=
  ((x.splitOn Config.sentinel).drop 1).dropLast.map (Config.sentinel :: ·)

/-- The spans that pass validation. -/
def validSpans (x : Bytes) : List Bytes := (sentinelSpans x).filter fun c => (validate c).isValid

/-! ## Classes of instructions -/

/-- The rows of format `op`: the 21 operations of 30_encoding.md R82. -/
def isOperation (i : Instr) : Bool := i.row.fmt == .op

/-- The pure operations (40_codec.md R115; R82 `kind` pure) and the rows that stand for one of them (logs 6, 8). -/
def isCodec : Instr → Bool
  | .codecChecksum _ _ _ => true
  | .codecEncode _ _ _ => true
  | .codecValidate _ => true
  | .codecF32ToBytes _ => true
  | .decodeF32 _ _ => true
  | .decodeU8 _ _ => true
  | .decodeBool _ _ => true
  | .decodeProtection _ _ => true
  | .decodeMode _ _ => true
  | .decodeTelemetry _ => true
  | .decodeComposite _ => true
  | .decodeRegister _ _ => true
  | .framerPush _ => false
  | .framerReset => false
  | .seqEnqueue _ => false
  | .seqIssue => false
  | .seqTick => false
  | .linkOpen => false
  | .linkClose => false
  | .statusRead _ => false
  | .blockReset => false
  | .frameGet _ _ => true
  | .frameSet _ _ => true
  | .frameEnable _ _ => true
  | .frameBaud _ _ => true
  | .frameInbound _ => false
  | .regInputV _ _ _ => true
  | .regSetV _ _ _ => true
  | .regSetI _ _ _ => true
  | .regTelemetry _ _ _ => true
  | .regTemp _ _ _ => true
  | .regOutEn _ _ _ => true
  | .regProtection _ _ _ => true
  | .regMode _ _ _ => true
  | .regAllState _ _ _ => true

end Sys2Proof.Machine
end

