-- ==== Sys2Proof/Certificates/Slice0/Obligations.lean ====
section
/-! DEFINITION. The statements for the provers: what the numbered rules of spec/ say of the model. Nothing is proved here. What an
operation returns (00_scope.md R11) is read in the field `response` (log 12). -/

open Sys2Proof Sys2Proof.Machine

/-! ## Reset, invariants, steps -/

/-- 10_state.md R34: "status registers 0 to 13 are 0; registers 14 to 16 equal their parameters", every state field at its reset
value, and the four streams empty. -/
def Obligations.ResetStateIsRule34 : Prop :=
  State.reset.fmode = .idle ∧ State.reset.pending = [] ∧ State.reset.queue = [] ∧ State.reset.delay = 0 ∧
  State.reset.linkUp = false ∧ State.reset.nextTicket = 0 ∧
  (∀ idx : Byte, idx.toNat ≤ 13 → State.reset.statusReg idx = 0) ∧
  State.reset.statusReg 14 = BitVec.ofNat 32 State.reset.cfg.delayTicks ∧
  State.reset.statusReg 15 = BitVec.ofNat 32 State.reset.cfg.framerCap ∧
  State.reset.statusReg 16 = BitVec.ofNat 32 State.reset.cfg.seqQcap ∧
  State.reset.frameOut = [] ∧ State.reset.log = [] ∧ State.reset.linkTx = [] ∧ State.reset.completion = []

/-- The invariant of `StepKeepsInvariant` holds at reset, in a legal configuration: R24, R25, R26, R34, the candidate count and the
frames of R153 and R158, and the events' numbers of R231, which count from 0 (the model's choice, log 13). -/
def Obligations.ResetMeetsInvariant : Prop :=
  State.reset.Inv ∧ State.reset.cfg.legal = true

/-- Every step keeps the invariant: the framer invariant R24, the queue's bounds R25, the delay's R26, the candidate count R153,
valid single-span frames on `frame_out` (R153, R158), and the events' numbering (R231 as log 13 reads it). -/
def Obligations.StepKeepsInvariant : Prop :=
  ∀ s t : State, s.Inv → step s = .next t → t.Inv

/-- A request that decodes to an instruction is run: `step` is `exec` of it on the state with the request taken and the step
counter advanced (the request list and its counter are the model's own, log 3). -/
def Obligations.StepRunsDecodedInstruction : Prop :=
  ∀ (s : State) (r : Request) (rest : List Request) (i : Instr),
    s.cfg.legal = true → s.requests = r :: rest → decode r = .ok i →
      step s = exec i { s with requests := rest, stepNo := s.stepNo + 1 }

/-- With no request no agent takes a step and nothing changes (R234; the model's choice, log 3). -/
def Obligations.StepWithoutRequestWaits : Prop :=
  ∀ s : State, s.cfg.legal = true → s.requests = [] → step s = .next s

/-- R7: a configuration with `FRAMER_CAP < 260` or `SEQ_QCAP < 1` is refused, and no other one is. That the refusal is one of every
step is the model's reading (log 18). -/
def Obligations.StepRefusesExactlyIllegalConfigurations : Prop :=
  ∀ s : State, (s.cfg.framerCap < 260 ∨ s.cfg.seqQcap < 1) ↔ step s = .refused .illegalConfiguration

/-- R82, R223: a request with a reserved operation id is refused with `RESERVED_OP`; nothing of the block changes and nothing is
emitted. -/
def Obligations.ReservedOperationIsRefused : Prop :=
  ∀ (s : State) (id : Byte) (operands : Bytes) (rest : List Request),
    s.cfg.legal = true → s.requests = { fmt := .op, bytes := id :: operands } :: rest →
    id.toNat ∉ [0x01, 0x02, 0x03, 0x04, 0x10, 0x11, 0x12, 0x13, 0x14, 0x15, 0x16, 0x17, 0x20, 0x21, 0x30, 0x31, 0x32,
      0x33, 0x34, 0x40, 0x41] →
      step s = .next { s with requests := rest, stepNo := s.stepNo + 1, response := .fault .reservedOp }

/-- A valid frame looked up by a register id outside the catalogue is "ignored without error" (R78, R112): the answer is UNKNOWN
and nothing is emitted. That such a look-up is a request is the model's reading (logs 5, 15). -/
def Obligations.UnknownRegisterLookupIsIgnored : Prop :=
  ∀ (s : State) (hdr cmd reg : Byte) (payload : Bytes) (rest : List Request),
    s.cfg.legal = true → payload.length ≤ 255 →
    reg.toNat ∉ [0xC0, 0xC1, 0xC2, 0xC3, 0xC4, 0xDB, 0xDC, 0xDD, 0xFF] →
    s.requests = { fmt := .register, bytes := frameBytes hdr cmd reg payload } :: rest →
      step s = .next
        { s with requests := rest, stepNo := s.stepNo + 1, response := .value (.register (.unknown reg)) }

/-- No instruction stops the block (R220, R225: every error is contained in its step). That a refused `CODEC_ENCODE` and a disabled
`SEQ_ISSUE` answer a next state too is the model's choice (logs 9, 10). -/
def Obligations.EveryInstructionAnswersNextState : Prop :=
  ∀ (i : Instr) (s : State), ∃ t : State, exec i s = .next t

/-- No request stops the block in a legal configuration, whatever its bytes (R220; for bytes that are no request the model's
choice, log 14). -/
def Obligations.EveryStepAnswersNextState : Prop :=
  ∀ s : State, s.cfg.legal = true → ∃ t : State, step s = .next t

/-- Bytes that are no request of the spec are dropped (R102: "Malformed frames are dropped silently"): the request is taken, the
answer says why, and nothing else changes (the model's choice, log 14). A reserved operation id and an unknown register id have
their own statements. -/
def Obligations.MalformedRequestIsDropped : Prop :=
  ∀ (s : State) (r : Request) (rest : List Request) (e : DecodeError),
    s.cfg.legal = true → s.requests = r :: rest → decode r = .error e →
    (∀ id, e ≠ .reservedOp id) → (∀ reg, e ≠ .unknownRegister reg) →
      step s = .next { s with requests := rest, stepNo := s.stepNo + 1, response := .ignored e }

/-! ## Encoding -/

/-- Decoding the encoding of a well-formed instruction gives it back, for every row and every operand value. -/
def Obligations.DecodeOfEncodeIsIdentity : Prop :=
  ∀ i : Instr, i.wf = true → decode (encode i) = .ok i

/-- A request the decoder accepts is the encoding of the well-formed instruction it stands for: no two requests share a meaning
and no byte of a request is dropped. The operand layout is the model's (log 4), and so is that bytes cut short or left over are
no request (log 14). -/
def Obligations.EncodeOfDecodeIsIdentity : Prop :=
  ∀ (r : Request) (i : Instr), decode r = .ok i → i.wf = true ∧ encode i = r

/-- A few requests written out from R71, R73, R81 and R82 (operand layout: log 4). -/
def Obligations.WrittenOutWordsDecode : Prop :=
  decode { fmt := .op, bytes := [0x01, 0xDB, 0x01, 0x01] } = .ok (.codecChecksum 0xDB 0x01 [0x01]) ∧
  decode { fmt := .op, bytes := [0x02, 0x01, 0xC1, 0x00, 0x00, 0x40, 0x41] } =
    .ok (.codecEncode .set 0xC1 [0x00, 0x00, 0x40, 0x41]) ∧
  decode { fmt := .op, bytes := [0x10, 0x01, 0x00, 0x00, 0x00, 0xAA, 0x00, 0x00, 0x40, 0x41] } =
    .ok (.decodeF32 [0xAA, 0x00, 0x00, 0x40, 0x41] 1) ∧
  decode { fmt := .op, bytes := [0x20, 0xF0, 0xA1] } = .ok (.framerPush [0xF0, 0xA1]) ∧
  decode { fmt := .op, bytes := [0x31] } = .ok .seqIssue ∧
  decode { fmt := .op, bytes := [0x40, 0x0D] } = .ok (.statusRead 13) ∧
  decode { fmt := .frame, bytes := [0xF1, 0xB1, 0xC1, 0x04, 0x00, 0x00, 0x40, 0x41, 0x46] } =
    .ok (.frameSet 0xC1 [0x00, 0x00, 0x40, 0x41]) ∧
  decode { fmt := .frame, bytes := [0xF0, 0xA1, 0xC1, 0x00, 0xC1] } = .ok (.frameInbound [0xA1, 0xC1, 0x00, 0xC1]) ∧
  decode { fmt := .register, bytes := [0xF0, 0xA1, 0xDC, 0x01, 0x03, 0xE0] } = .ok (.regProtection 0xF0 0xA1 [0x03])

/-! ## The Frame Codec -/

/-- R100: the checksum is `(reg + len + sum(payload)) mod 256`, "which equals 8-bit wrapping addition at every step"; nothing
else changes. -/
def Obligations.ChecksumIsSumModulo256 : Prop :=
  ∀ (reg len : Byte) (payload : Bytes) (s : State), ∃ b : Byte,
    exec (.codecChecksum reg len payload) s = .next { s with response := .value (.byte b) } ∧
    b.toNat = (reg.toNat + len.toNat + (payload.map BitVec.toNat).sum) % 256 ∧
    b = payload.foldl (· + ·) (reg + len)

/-- R114, the change of one payload byte from `a` to `a'`: the checksum changes by `(a' − a) mod 256`, so a payload with one byte
changed has another checksum. -/
def Obligations.ChecksumSeesOnePayloadByte : Prop :=
  ∀ (reg len : Byte) (payload : Bytes) (k : Nat) (a' : Byte) (s : State), k < payload.length →
    ∃ b b' : Byte,
      exec (.codecChecksum reg len payload) s = .next { s with response := .value (.byte b) } ∧
      exec (.codecChecksum reg len (payload.set k a')) s = .next { s with response := .value (.byte b') } ∧
      b' - b = a' - payload.getD k 0 ∧ (a' ≠ payload.getD k 0 → b' ≠ b)

/-- R101: `CODEC_ENCODE` builds `F1 cmd reg N payload chk`, and raises `ENCODE_TOO_LONG` for a payload over 255 bytes, with no
frame, no state change and no log. That the block goes on after the fault is the choice R223 leaves (log 9). -/
def Obligations.EncodeBuildsFrameOrFaults : Prop :=
  ∀ (cmd : Cmd) (reg : Byte) (payload : Bytes) (s : State),
    (payload.length ≤ 255 →
      exec (.codecEncode cmd reg payload) s = .next { s with response := .value (.bytes
        ([0xF1, (match cmd with | .get => 0xA1 | .set => 0xB1 | .enable => 0xC1 | .baud => 0xB0), reg,
            BitVec.ofNat 8 payload.length] ++ payload ++
          [BitVec.ofNat 8 (reg.toNat + payload.length + (payload.map BitVec.toNat).sum)])) }) ∧
    (255 < payload.length →
      exec (.codecEncode cmd reg payload) s = .next { s with response := .fault .encodeTooLong })

/-- The rows FRAME_GET, FRAME_SET, FRAME_ENABLE and FRAME_BAUD stand for the frame `CODEC_ENCODE` builds with their command byte
(R101, R73; that such a row is a request for that frame is the model's reading, log 6). -/
def Obligations.FrameRowsBuildTheirFrame : Prop :=
  ∀ (reg : Byte) (payload : Bytes) (s : State), payload.length ≤ 255 →
    let built (cmdbyte : Byte) : Result := .next { s with response := .value (.bytes
      ([0xF1, cmdbyte, reg, BitVec.ofNat 8 payload.length] ++ payload ++
        [BitVec.ofNat 8 (reg.toNat + payload.length + (payload.map BitVec.toNat).sum)])) }
    exec (.frameGet reg payload) s = built 0xA1 ∧ exec (.frameSet reg payload) s = built 0xB1 ∧
    exec (.frameEnable reg payload) s = built 0xC1 ∧ exec (.frameBaud reg payload) s = built 0xB0

/-- R102: the verdict of `CODEC_VALIDATE`, the checks in their order, with the codes of its outputs `valid` and `reason`; nothing
else changes. -/
def Obligations.ValidateGivesFirstFailingCheck : Prop :=
  ∀ (cand : Bytes) (s : State),
    exec (.codecValidate cand) s = .next { s with response := .value (.verdict
      (if cand.length < 5 then .invalid .short
       else if (cand.getD 3 0).toNat ≠ cand.length - 5 then .invalid .length
       else if (cand.getD (cand.length - 1) 0).toNat ≠ (((cand.drop 2).dropLast.map BitVec.toNat).sum) % 256 then
         .invalid .checksum
       else .valid
         { hdr := cand.getD 0 0, cmd := cand.getD 1 0, reg := cand.getD 2 0, len := cand.getD 3 0,
           payload := (cand.drop 4).dropLast })) } ∧
    (∀ f : Frame, (Verdict.valid f).isValid = true ∧ (Verdict.valid f).reason = 0) ∧
    (∀ r : Invalid, (Verdict.invalid r).isValid = false ∧
      (Verdict.invalid r).reason = (match r with | .short => 1 | .length => 2 | .checksum => 3))

/-- R113, the round-trip law, both parts. -/
def Obligations.CodecRoundTripLaw : Prop :=
  (∀ (cmd : Cmd) (reg : Byte) (payload : Bytes) (s : State), payload.length ≤ 255 → ∃ frame : Bytes,
    exec (.codecEncode cmd reg payload) s = .next { s with response := .value (.bytes frame) } ∧
    exec (.codecValidate frame) s = .next { s with response := .value (.verdict (.valid
      { hdr := 0xF1
        cmd := (match cmd with | .get => 0xA1 | .set => 0xB1 | .enable => 0xC1 | .baud => 0xB0)
        reg := reg, len := BitVec.ofNat 8 payload.length, payload := payload })) }) ∧
  (∀ (w : Word) (s : State), ∃ bs : Bytes,
    exec (.codecF32ToBytes w) s = .next { s with response := .value (.bytes bs) } ∧
    exec (.decodeF32 bs 0) s = .next { s with response := .value (.f32 { w := w, short := false }) })

/-- R103: the four bytes of the word, least significant first; nothing else changes. -/
def Obligations.F32BytesAreLittleEndian : Prop :=
  ∀ (w : Word) (s : State), ∃ b0 b1 b2 b3 : Byte,
    exec (.codecF32ToBytes w) s = .next { s with response := .value (.bytes [b0, b1, b2, b3]) } ∧
    w.toNat = b0.toNat + 2 ^ 8 * b1.toNat + 2 ^ 16 * b2.toNat + 2 ^ 24 * b3.toNat

/-- R115: a codec operation's answer and the events it appends to `log` depend on its operands and the configuration
alone, and nothing but `log`, its numbering and the answer changes. (The frame and register rows among them: logs 6,
8.) The events' numbers are the model's own (log 13). -/
def Obligations.CodecOperationsArePure : Prop :=
  ∀ (i : Instr) (z : Word), isCodec i = true → ∃ (answer : Response) (warns : List LogEvent),
    (∀ e ∈ warns, e.code = .decodeShortF32 ∨ e.code = .decodeShortU8 ∨ e.code = .decodeShortComposite) ∧
    ∀ s : State, s.cfg.f32Sentinel = z →
      exec i s = .next
        { s with log := s.log ++ stampedLogs s.stepNo s.eventNo warns, eventNo := s.eventNo + warns.length,
                 response := answer }

/-! ## The decoders -/

/-- R105: with fewer than 4 bytes from `k` (in naturals, no wrap) the sentinel word, `short`, and one log; else the
little-endian word. The events' numbers are the model's own (log 13). -/
def Obligations.DecodeF32ReadsOrWarns : Prop :=
  ∀ (bs : Bytes) (k : Word) (s : State),
    (k.toNat + 4 > bs.length →
      exec (.decodeF32 bs k) s = .next
        { s with log := s.log ++ [s.stamp 0 { code := .decodeShortF32, info := k }]
                 eventNo := s.eventNo + 1
                 response := .value (.f32 { w := s.cfg.f32Sentinel, short := true }) }) ∧
    (k.toNat + 4 ≤ bs.length →
      ∃ w : Word, exec (.decodeF32 bs k) s = .next { s with response := .value (.f32 { w := w, short := false }) } ∧
        w.toNat = (bs.getD k.toNat 0).toNat + 2 ^ 8 * (bs.getD (k.toNat + 1) 0).toNat +
          2 ^ 16 * (bs.getD (k.toNat + 2) 0).toNat + 2 ^ 24 * (bs.getD (k.toNat + 3) 0).toNat)

/-- R106: the byte at `k`, or `0x00`, `short` and one log when `k` is at or past the end. The events' numbers are the
model's own (log 13). -/
def Obligations.DecodeU8ReadsOrWarns : Prop :=
  ∀ (bs : Bytes) (k : Word) (s : State),
    (k.toNat + 1 > bs.length →
      exec (.decodeU8 bs k) s = .next
        { s with log := s.log ++ [s.stamp 0 { code := .decodeShortU8, info := k }]
                 eventNo := s.eventNo + 1
                 response := .value (.u8 { b := 0x00, short := true }) }) ∧
    (∀ b : Byte, bs[k.toNat]? = some b →
      exec (.decodeU8 bs k) s = .next { s with response := .value (.u8 { b := b, short := false }) })

/-- R107: every non-zero byte reads as true; a short read gives false with `short`, and logs. The events' numbers are
the model's own (log 13). -/
def Obligations.DecodeBoolIsNonZero : Prop :=
  ∀ (bs : Bytes) (k : Word) (s : State),
    (k.toNat + 1 > bs.length →
      exec (.decodeBool bs k) s = .next
        { s with log := s.log ++ [s.stamp 0 { code := .decodeShortU8, info := k }]
                 eventNo := s.eventNo + 1
                 response := .value (.bool { v := false, short := true }) }) ∧
    (∀ b : Byte, bs[k.toNat]? = some b →
      exec (.decodeBool bs k) s = .next { s with response := .value (.bool { v := decide (b ≠ 0), short := false }) })

/-- R108: ordinals 0..5 give NONE, OVP, OCP, OPP, OTP, LVP; any other byte gives ordinal 0, NONE, clamped, with no
log; a short read gives NONE, not clamped, `short`, and logs. The events' numbers are the model's own (log 13). -/
def Obligations.DecodeProtectionLabelsOrClamps : Prop :=
  ∀ (bs : Bytes) (k : Word) (s : State),
    (k.toNat + 1 > bs.length →
      exec (.decodeProtection bs k) s = .next
        { s with log := s.log ++ [s.stamp 0 { code := .decodeShortU8, info := k }]
                 eventNo := s.eventNo + 1
                 response := .value (.protection
                   { val := { ord := 0, label := .none, clamped := false }, short := true }) }) ∧
    (∀ b : Byte, bs[k.toNat]? = some b →
      exec (.decodeProtection bs k) s = .next { s with response := .value (.protection
        { val :=
            (if b = 0 then { ord := 0, label := .none, clamped := false }
             else if b = 1 then { ord := 1, label := .ovp, clamped := false }
             else if b = 2 then { ord := 2, label := .ocp, clamped := false }
             else if b = 3 then { ord := 3, label := .opp, clamped := false }
             else if b = 4 then { ord := 4, label := .otp, clamped := false }
             else if b = 5 then { ord := 5, label := .lvp, clamped := false }
             else { ord := 0, label := .none, clamped := true })
          short := false }) })

/-- R109: 0 gives CC, 1 gives CV; any other byte gives ordinal 0, CC, clamped; a short read gives CC with `short`,
and logs. The events' numbers are the model's own (log 13). -/
def Obligations.DecodeModeLabelsOrClamps : Prop :=
  ∀ (bs : Bytes) (k : Word) (s : State),
    (k.toNat + 1 > bs.length →
      exec (.decodeMode bs k) s = .next
        { s with log := s.log ++ [s.stamp 0 { code := .decodeShortU8, info := k }]
                 eventNo := s.eventNo + 1
                 response := .value (.mode { val := { ord := 0, label := .cc, clamped := false }, short := true }) }) ∧
    (∀ b : Byte, bs[k.toNat]? = some b →
      exec (.decodeMode bs k) s = .next { s with response := .value (.mode
        { val :=
            (if b = 0 then { ord := 0, label := .cc, clamped := false }
             else if b = 1 then { ord := 1, label := .cv, clamped := false }
             else { ord := 0, label := .cc, clamped := true })
          short := false }) })

/-- R110: three float32 at 0, 4 and 8, each read as `DECODE_F32` reads it, each short field with its own log, in that
order. The events' numbers are the model's own (log 13). -/
def Obligations.TelemetryIsThreeF32 : Prop :=
  ∀ (bs : Bytes) (s : State),
    let field (k : Nat) : F32Read :=
      if bs.length < k + 4 then { w := s.cfg.f32Sentinel, short := true } else { w := le32 bs k, short := false }
    let short : List Nat := [0, 4, 8].filter fun k => bs.length < k + 4
    exec (.decodeTelemetry bs) s = .next
      { s with log := s.log ++ stampedLogs s.stepNo s.eventNo
                 (short.map fun k => { code := .decodeShortF32, info := BitVec.ofNat 32 k })
               eventNo := s.eventNo + short.length
               response := .value (.telemetry { v := field 0, i := field 4, p := field 8 }) }

/-- R111: a payload of fewer than 139 bytes gives no field at all and one log; a longer one gives every field of the
layout and the 139 raw bytes. The events' numbers are the model's own (log 13). -/
def Obligations.CompositeIsAllOrNothing : Prop :=
  ∀ (bs : Bytes) (s : State),
    (bs.length < 139 →
      exec (.decodeComposite bs) s = .next
        { s with log := s.log ++ [s.stamp 0 { code := .decodeShortComposite, info := BitVec.ofNat 32 bs.length }]
                 eventNo := s.eventNo + 1
                 response := .value (.composite none) }) ∧
    (139 ≤ bs.length → ∃ r : Composite,
      exec (.decodeComposite bs) s = .next { s with response := .value (.composite (some r)) } ∧
      r.inputV = le32 bs 0 ∧ r.setV = le32 bs 4 ∧ r.setI = le32 bs 8 ∧ r.outV = le32 bs 12 ∧ r.outI = le32 bs 16 ∧
      r.outP = le32 bs 20 ∧ r.temp = le32 bs 24 ∧
      r.outEn = decide (bs.getD 107 0 ≠ 0) ∧
      (bs.getD 108 0 ≤ 5 → r.protection.ord = bs.getD 108 0 ∧ r.protection.clamped = false ∧
        [Prot.none, .ovp, .ocp, .opp, .otp, .lvp][(bs.getD 108 0).toNat]? = some r.protection.label) ∧
      (¬ bs.getD 108 0 ≤ 5 → r.protection = { ord := 0, label := .none, clamped := true }) ∧
      (bs.getD 109 0 ≤ 1 → r.mode.ord = bs.getD 109 0 ∧ r.mode.clamped = false ∧
        [Mode.cc, .cv][(bs.getD 109 0).toNat]? = some r.mode.label) ∧
      (¬ bs.getD 109 0 ≤ 1 → r.mode = { ord := 0, label := .cc, clamped := true }) ∧
      r.raw = bs.take 139)

/-- R112: `DECODE_REGISTER` of a catalogue id is the decoder of that id with its result under the register's name, events and
all; any other id gives UNKNOWN, with no log. -/
def Obligations.DecodeRegisterDispatches : Prop :=
  ∀ (payload : Bytes) (s : State),
    let asF32 (id : Byte) (field : F32Field) : Prop := ∃ (u : State) (r : F32Read),
      exec (.decodeF32 payload 0) s = .next { u with response := .value (.f32 r) } ∧
      exec (.decodeRegister id payload) s = .next { u with response := .value (.register (.f32 field r)) }
    asF32 0xC0 .inputV ∧ asF32 0xC1 .setV ∧ asF32 0xC2 .setI ∧ asF32 0xC4 .temp ∧
    (∃ (u : State) (r : Telemetry), exec (.decodeTelemetry payload) s = .next { u with response := .value (.telemetry r) } ∧
      exec (.decodeRegister 0xC3 payload) s = .next { u with response := .value (.register (.telemetry r)) }) ∧
    (∃ (u : State) (r : BoolRead), exec (.decodeBool payload 0) s = .next { u with response := .value (.bool r) } ∧
      exec (.decodeRegister 0xDB payload) s = .next { u with response := .value (.register (.outEn r)) }) ∧
    (∃ (u : State) (r : EnumRead Prot),
      exec (.decodeProtection payload 0) s = .next { u with response := .value (.protection r) } ∧
      exec (.decodeRegister 0xDC payload) s = .next { u with response := .value (.register (.protection r)) }) ∧
    (∃ (u : State) (r : EnumRead Mode), exec (.decodeMode payload 0) s = .next { u with response := .value (.mode r) } ∧
      exec (.decodeRegister 0xDD payload) s = .next { u with response := .value (.register (.mode r)) }) ∧
    (∃ (u : State) (r : Option Composite),
      exec (.decodeComposite payload) s = .next { u with response := .value (.composite r) } ∧
      exec (.decodeRegister 0xFF payload) s = .next { u with response := .value (.register (.composite r)) }) ∧
    ∀ reg : Byte, reg.toNat ∉ [0xC0, 0xC1, 0xC2, 0xC3, 0xC4, 0xDB, 0xDC, 0xDD, 0xFF] →
      exec (.decodeRegister reg payload) s = .next { s with response := .value (.register (.unknown reg)) }

/-- The nine register rows answer as `DECODE_REGISTER` of their id does, whatever the frame's header and command (R112, R76; that
a row is a request for that decode is the model's reading, log 8). -/
def Obligations.RegisterRowsDecodeTheirPayload : Prop :=
  ∀ (hdr cmd : Byte) (payload : Bytes) (s : State),
    let same (i : Instr) (id : Byte) : Prop := ∃ t : State, exec i s = .next t ∧ exec (.decodeRegister id payload) s = .next t
    same (.regInputV hdr cmd payload) 0xC0 ∧ same (.regSetV hdr cmd payload) 0xC1 ∧ same (.regSetI hdr cmd payload) 0xC2 ∧
    same (.regTelemetry hdr cmd payload) 0xC3 ∧ same (.regTemp hdr cmd payload) 0xC4 ∧
    same (.regOutEn hdr cmd payload) 0xDB ∧ same (.regProtection hdr cmd payload) 0xDC ∧
    same (.regMode hdr cmd payload) 0xDD ∧ same (.regAllState hdr cmd payload) 0xFF

/-! ## The Stream Framer -/

/-- R151: a byte other than the sentinel is dropped in IDLE, joins the open candidate in COLLECT, and overflows a
full one. The events' numbers are the model's own (log 13). -/
def Obligations.OrdinaryByteIsDroppedKeptOrOverflows : Prop :=
  ∀ (b : Byte) (s : State), b ≠ 0xF0 →
    (s.fmode = .idle → exec (.framerPush [b]) s = .next { s with response := .nothing }) ∧
    (s.fmode = .collect → s.pending.length < s.cfg.framerCap →
      exec (.framerPush [b]) s = .next { s with pending := s.pending ++ [b], response := .nothing }) ∧
    (s.fmode = .collect → ¬ s.pending.length < s.cfg.framerCap →
      exec (.framerPush [b]) s = .next
        { s with log := s.log ++ [s.stamp 0 { code := .framerOverflow, info := BitVec.ofNat 32 (s.pending.length + 1) }]
                 eventNo := s.eventNo + 1
                 cntFramerOverflow := s.cntFramerOverflow + 1
                 pending := [], fmode := .idle, response := .nothing })

/-- R152, R153: a sentinel opens a candidate; in COLLECT the candidate before it is handed off, counted, and either
emitted on `frame_out` or logged with its reason and length. The events' numbers are the model's own (log 13). -/
def Obligations.SentinelHandsOffTheCandidate : Prop :=
  ∀ s : State,
    (s.fmode = .idle →
      exec (.framerPush [0xF0]) s = .next { s with pending := [0xF0], fmode := .collect, response := .nothing }) ∧
    (∀ f : Frame, s.fmode = .collect → validate s.pending = .valid f →
      exec (.framerPush [0xF0]) s = .next
        { s with cntCandidates := s.cntCandidates + 1, cntFramesValid := s.cntFramesValid + 1
                 frameOut := s.frameOut ++ [s.stamp 0 (f.emitted s.pending)]
                 eventNo := s.eventNo + 1
                 pending := [0xF0], fmode := .collect, response := .nothing }) ∧
    (∀ r : Invalid, s.fmode = .collect → validate s.pending = .invalid r →
      exec (.framerPush [0xF0]) s = .next
        { s with cntCandidates := s.cntCandidates + 1, cntFramesInvalid := s.cntFramesInvalid + 1
                 log := s.log ++ [s.stamp 0 { code := (match r with
                   | .short => .candShort | .length => .candLength | .checksum => .candChecksum), info := BitVec.ofNat 32 s.pending.length }]
                 eventNo := s.eventNo + 1
                 pending := [0xF0], fmode := .collect, response := .nothing })

/-- FRAME_INBOUND: a host-bound frame is received as a push of its bytes (R154, R160). From IDLE, a frame without an interior
sentinel that fits is held whole, and no event comes out (R159). From COLLECT its sentinel first hands off the candidate before
it (R152, R153). That a row for a host-bound frame is its reception is the model's reading (log 7), and so
are the events' numbers (log 13). -/
def Obligations.InboundFrameIsReceived : Prop :=
  ∀ (tail : Bytes) (s : State),
    (∃ t : State, exec (.frameInbound tail) s = .next t ∧ exec (.framerPush (0xF0 :: tail)) s = .next t) ∧
    (s.fmode = .idle → (0xF0 : Byte) ∉ tail → tail.length + 1 ≤ s.cfg.framerCap →
      exec (.frameInbound tail) s = .next { s with pending := 0xF0 :: tail, fmode := .collect, response := .nothing }) ∧
    (∀ f : Frame, s.fmode = .collect → validate s.pending = .valid f → (0xF0 : Byte) ∉ tail →
      tail.length + 1 ≤ s.cfg.framerCap →
      exec (.frameInbound tail) s = .next
        { s with cntCandidates := s.cntCandidates + 1, cntFramesValid := s.cntFramesValid + 1
                 frameOut := s.frameOut ++ [s.stamp 0 (f.emitted s.pending)]
                 eventNo := s.eventNo + 1
                 pending := 0xF0 :: tail, fmode := .collect, response := .nothing }) ∧
    (∀ r : Invalid, s.fmode = .collect → validate s.pending = .invalid r → (0xF0 : Byte) ∉ tail →
      tail.length + 1 ≤ s.cfg.framerCap →
      exec (.frameInbound tail) s = .next
        { s with cntCandidates := s.cntCandidates + 1, cntFramesInvalid := s.cntFramesInvalid + 1
                 log := s.log ++ [s.stamp 0
                   { code := (match r with | .short => .candShort | .length => .candLength | .checksum => .candChecksum)
                     info := BitVec.ofNat 32 s.pending.length }]
                 eventNo := s.eventNo + 1
                 pending := 0xF0 :: tail, fmode := .collect, response := .nothing })

/-- R154: a push touches only the framer's state and counters, `frame_out` and `log`, which only grow; it "reads neither
`link_up` nor any sequencer state". -/
def Obligations.PushTouchesOnlyTheFramer : Prop :=
  ∀ (chunk : Bytes) (s : State), ∃ t : State,
    exec (.framerPush chunk) s = .next t ∧
    t = { s with fmode := t.fmode, pending := t.pending, cntCandidates := t.cntCandidates,
                 cntFramesValid := t.cntFramesValid, cntFramesInvalid := t.cntFramesInvalid,
                 cntFramerOverflow := t.cntFramerOverflow, frameOut := t.frameOut, log := t.log, eventNo := t.eventNo,
                 response := .nothing } ∧
    s.frameOut <+: t.frameOut ∧ s.log <+: t.log ∧
    ∀ (up : Bool) (queue : List Entry) (delay ticket : Word),
      exec (.framerPush chunk) { s with linkUp := up, queue := queue, delay := delay, nextTicket := ticket } =
        .next { t with linkUp := up, queue := queue, delay := delay, nextTicket := ticket }

/-- R157, chunking invariance: any split of a byte sequence into chunks leaves the same state and the same events in the same
order. The equality covers the numbers of the events too, which are the model's (log 13): equal step numbers because `execAll`
runs the pushes inside one step. Pushes that are steps of their own carry their own step numbers (R231). -/
def Obligations.ChunkingDoesNotMatter : Prop :=
  ∀ (chunks : List Bytes) (s : State), chunks ≠ [] →
    execAll (chunks.map Instr.framerPush) s = exec (.framerPush chunks.flatten) s

/-- R158, R162: from a cleared framer the per-byte, bounded framer emits exactly the valid spans between sentinels that the
source's unbounded splitting gives, in order, and keeps what follows the last sentinel unless it overflows. -/
def Obligations.FramerEmitsTheSourcesValidSpans : Prop :=
  ∀ (x : Bytes) (s : State), 260 ≤ s.cfg.framerCap → s.fmode = .idle → s.pending = [] →
    ∃ (t : State) (ext : List (Stamped FrameOut)),
      exec (.framerPush x) s = .next t ∧ t.frameOut = s.frameOut ++ ext ∧
      ext.map (·.ev.raw) = validSpans x ∧
      ∀ last : Bytes, 0xF0 ∈ x → (x.splitOn 0xF0).getLast? = some last → last.length + 1 ≤ s.cfg.framerCap →
        t.pending = 0xF0 :: last

/-- R154, a push without a sentinel: an empty chunk changes nothing but the answer, in IDLE the bytes are dropped, and in COLLECT
they extend the candidate while it fits. In every case no frame comes out and no candidate is counted. -/
def Obligations.NoSentinelNoFrame : Prop :=
  (∀ s : State, exec (.framerPush []) s = .next { s with response := .nothing }) ∧
  ∀ (chunk : Bytes) (s : State), (0xF0 : Byte) ∉ chunk →
    (s.fmode = .idle → exec (.framerPush chunk) s = .next { s with response := .nothing }) ∧
    (s.fmode = .collect → s.pending.length + chunk.length ≤ s.cfg.framerCap →
      exec (.framerPush chunk) s = .next { s with pending := s.pending ++ chunk, response := .nothing }) ∧
    ∃ t : State, exec (.framerPush chunk) s = .next t ∧ t.frameOut = s.frameOut ∧ t.cntCandidates = s.cntCandidates ∧
      t.cntFramesValid = s.cntFramesValid ∧ t.cntFramesInvalid = s.cntFramesInvalid

/-- R159: a frame comes out, and a candidate is counted, only in a step that receives a sentinel; so the last frame received stays
until another `0xF0` arrives, whatever else runs. (`BLOCK_RESET` zeroes the counters. A row for a host-bound frame receives its
bytes: log 7.) -/
def Obligations.FramesComeOutOnlyAtASentinel : Prop :=
  ∀ (i : Instr) (s t : State), exec i s = .next t → (0xF0 : Byte) ∉ receivedBytes [i] →
    t.frameOut = s.frameOut ∧
    (i ≠ .blockReset → t.cntCandidates = s.cntCandidates ∧ t.cntFramesValid = s.cntFramesValid ∧
      t.cntFramesInvalid = s.cntFramesInvalid)

/-- R158 over any run in which the framer is not cleared, whatever else is interleaved: the frames that come out are exactly the
valid spans between successive sentinels of all the bytes received since the framer was clear, in increasing order. (A row for a
host-bound frame receives its bytes: log 7.) -/
def Obligations.RunEmitsTheValidSpansReceived : Prop :=
  ∀ (is : List Instr) (s t : State), 260 ≤ s.cfg.framerCap → s.fmode = .idle → s.pending = [] →
    execAll is s = .next t → Instr.framerReset ∉ is → Instr.linkClose ∉ is → Instr.blockReset ∉ is →
      ∃ ext : List (Stamped FrameOut), t.frameOut = s.frameOut ++ ext ∧ ext.map (·.ev.raw) = validSpans (receivedBytes is) ∧
        ∀ e ∈ ext, e.ev.raw.length ≤ s.cfg.framerCap

/-- R161: a frame cut before its end at byte `m` fails validation, with SHORT for a cut at byte 1 to 4 and LENGTH otherwise. -/
def Obligations.CutFrameFailsValidation : Prop :=
  ∀ (cmd reg chk : Byte) (payload : Bytes) (m : Nat) (s : State), payload.length ≤ 255 → 1 ≤ m → m ≤ 4 + payload.length →
    exec (.codecValidate (([0xF0, cmd, reg, BitVec.ofNat 8 payload.length] ++ payload ++ [chk]).take m)) s =
      .next { s with response := .value (.verdict (.invalid (if m ≤ 4 then .short else .length))) }

/-- R155, R156: the framer restarts; nothing is emitted and no counter changes. -/
def Obligations.FramerResetClears : Prop :=
  ∀ s : State, exec .framerReset s = .next { s with pending := [], fmode := .idle, response := .nothing }

/-! ## The Command Sequencer -/

/-- R180: an enqueue takes the next ticket; a command of 0 or over 260 bytes is rejected, then a full queue rejects,
and any other command joins the end of the queue. The events' numbers are the model's own (log 13). -/
def Obligations.EnqueueAcceptsOrRejects : Prop :=
  ∀ (cmd : Bytes) (s : State),
    let rejected (log : LogEvent) : Result := .next
      { s with nextTicket := s.nextTicket + 1, cntRejected := s.cntRejected + 1
               completion := s.completion ++ [s.stamp 0 { ticket := s.nextTicket, status := .rejected }]
               log := s.log ++ [s.stamp 1 log]
               eventNo := s.eventNo + 2
               response := .value (.ticket s.nextTicket) }
    (cmd.length < 1 ∨ cmd.length > 260 →
      exec (.seqEnqueue cmd) s = rejected { code := .seqBadCmdLength, info := BitVec.ofNat 32 cmd.length }) ∧
    (1 ≤ cmd.length → cmd.length ≤ 260 → s.queue.length = s.cfg.seqQcap →
      exec (.seqEnqueue cmd) s = rejected { code := .seqQueueFull, info := s.nextTicket }) ∧
    (1 ≤ cmd.length → cmd.length ≤ 260 → s.queue.length ≠ s.cfg.seqQcap →
      exec (.seqEnqueue cmd) s = .next
        { s with nextTicket := s.nextTicket + 1, queue := s.queue ++ [{ ticket := s.nextTicket, cmd := cmd }]
                 response := .value (.ticket s.nextTicket) })

/-- Where `SEQ_ISSUE` is not enabled (R182) the worker's turn passes and nothing of the block changes (the model's choice for "no
step", log 10). -/
def Obligations.IssueWithoutEnableChangesNothing : Prop :=
  ∀ s : State, (s.queue = [] ∨ 0 < s.delay) → exec .seqIssue s = .next { s with response := .noStep }

/-- R183, R184: an enabled issue transmits the head of the queue whole and reloads the 32-bit delay. The outcome is FAIL while the
link is down, and the link controller's free answer while it is up. On OK the ticket completes OK; on FAIL it completes TX_FAILED
with its log, and every entry behind it completes DROPPED with its log, in queue order. The events' numbers, the draw counter and
the delay of a `DELAY_TICKS` over 32 bits are the model's own (logs 13, 11, 2). -/
def Obligations.IssueTransmitsTheHead : Prop :=
  ∀ (e : Entry) (rest : List Entry) (s : State), s.queue = e :: rest → s.delay = 0 →
    ∃ o : TxOutcome, (s.linkUp = false → o = .fail) ∧ (s.linkUp = true → o = Config.linkAnswer s.draws) ∧
      exec .seqIssue s = .next (match o with
        | .ok =>
          { s with queue := rest, delay := BitVec.ofNat 32 s.cfg.delayTicks, cntTxOk := s.cntTxOk + 1
                   linkTx := s.linkTx ++ [s.stamp 0 { bytes := e.cmd, outcome := .ok }]
                   completion := s.completion ++ [s.stamp 1 { ticket := e.ticket, status := .ok }]
                   eventNo := s.eventNo + 2, draws := (if s.linkUp then s.draws + 1 else s.draws), response := .nothing }
        | .fail =>
          { s with queue := [], delay := BitVec.ofNat 32 s.cfg.delayTicks, cntTxFail := s.cntTxFail + 1
                   cntDropped := s.cntDropped + BitVec.ofNat 32 rest.length
                   linkTx := s.linkTx ++ [s.stamp 0 { bytes := e.cmd, outcome := .fail }]
                   completion := s.completion ++ s.stamp 1 { ticket := e.ticket, status := .txFailed } ::
                       flushCompletions s.stepNo (s.eventNo + 3) rest
                   log := s.log ++ s.stamp 2 { code := .seqTxFailed, info := e.ticket } :: flushLogs s.stepNo (s.eventNo + 3) rest
                   eventNo := s.eventNo + 3 + 2 * rest.length
                   draws := (if s.linkUp then s.draws + 1 else s.draws), response := .nothing })

/-- R185: a tick lowers `delay` by one, and does nothing at 0. -/
def Obligations.TickCountsDown : Prop :=
  ∀ s : State,
    (0 < s.delay → exec .seqTick s = .next { s with delay := s.delay - 1, response := .nothing }) ∧
    (s.delay = 0 → exec .seqTick s = .next { s with response := .nothing })

/-- R186: the link is open; queue, delay and framer are unchanged. -/
def Obligations.LinkOpenSetsLinkUp : Prop :=
  ∀ s : State, exec .linkOpen s = .next { s with linkUp := true, response := .nothing }

/-- R187, R184: the link is closed, every queued command completes DROPPED with its log in queue order, and the
framer is cleared; `delay` is not changed. The events' numbers are the model's own (log 13). -/
def Obligations.LinkCloseFlushesAndClears : Prop :=
  ∀ s : State, exec .linkClose s = .next
    { s with linkUp := false, queue := [], cntDropped := s.cntDropped + BitVec.ofNat 32 s.queue.length
             completion := s.completion ++ flushCompletions s.stepNo s.eventNo s.queue
             log := s.log ++ flushLogs s.stepNo s.eventNo s.queue
             eventNo := s.eventNo + 2 * s.queue.length
             pending := [], fmode := .idle, response := .nothing }

/-- R188, the spacing law: between an effective issue and a later state in which an issue is enabled again, with no
`BLOCK_RESET` between, at least `DELAY_TICKS` ticks are taken. `delay` is 32 bits wide (R232), so for a `DELAY_TICKS` of 2^32 or
more it is that number modulo 2^32 (log 2). -/
def Obligations.TransmitsAreSpacedByDelayTicks : Prop :=
  ∀ (s s1 s2 : State) (is : List Instr), s.queue ≠ [] → s.delay = 0 → exec .seqIssue s = .next s1 →
    Instr.blockReset ∉ is → execAll is s1 = .next s2 → s2.queue ≠ [] → s2.delay = 0 →
      s.cfg.delayTicks % 2 ^ 32 ≤ is.count .seqTick

/-- R181: entries join the queue at its end and leave it only from its head, in the order they entered, through an issue or a
flush (`LINK_CLOSE`, `BLOCK_RESET`, a failed issue). The completions of a step are those of the entries that left, in order; an
enqueue's ticket completes REJECTED in its own step or joins the queue. -/
def Obligations.EntriesLeaveFromTheHeadInOrder : Prop :=
  ∀ (i : Instr) (s t : State), exec i s = .next t →
    ∃ ext : List (Stamped Completion), t.completion = s.completion ++ ext ∧
      ((∃ cmd, i = .seqEnqueue cmd ∧
          ((∃ c, ext = [c] ∧ c.ev = { ticket := s.nextTicket, status := .rejected } ∧ t.queue = s.queue) ∨
           (ext = [] ∧ t.queue = s.queue ++ [{ ticket := s.nextTicket, cmd := cmd }]))) ∨
       ((∀ cmd, i ≠ .seqEnqueue cmd) ∧
          ∃ gone : List Entry, s.queue = gone ++ t.queue ∧ ext.map (·.ev.ticket) = gone.map (·.ticket) ∧
            (∀ c ∈ ext, c.ev.status ≠ .rejected) ∧
            (gone ≠ [] → i = .seqIssue ∨ i = .linkClose ∨ i = .blockReset)))

/-- R189 over any run without `BLOCK_RESET` (which restarts the tickets): each ticket number completes or still waits exactly as
often as it was waiting before the run or received in it. So where those tickets are distinct, no ticket completes twice, none
both completes and waits, and none is lost. R189 has outstanding tickets distinct, which a wrap of the 32-bit counter can break
(log 21). -/
def Obligations.EveryTicketIsResolvedOnce : Prop :=
  ∀ (is : List Instr) (s t : State), execAll is s = .next t → Instr.blockReset ∉ is →
    let known : List Word := s.queue.map (·.ticket) ++
      (List.range (enqueuedCommands is).length).map fun j => s.nextTicket + BitVec.ofNat 32 j
    t.nextTicket = s.nextTicket + BitVec.ofNat 32 (enqueuedCommands is).length ∧
    ∃ ext : List (Stamped Completion), t.completion = s.completion ++ ext ∧
      (ext.map (·.ev.ticket) ++ t.queue.map (·.ticket)).Perm known ∧
      (known.Nodup → (ext.map (·.ev.ticket) ++ t.queue.map (·.ticket)).Nodup)

/-- R61 over any run, resets included: what is transmitted, followed by what still waits, is a subsequence of what waited before,
followed by what the run enqueued, in order. So no command overtakes another and none is transmitted twice. -/
def Obligations.TransmitsFollowEnqueueOrder : Prop :=
  ∀ (is : List Instr) (s t : State), execAll is s = .next t →
    ∃ ext : List (Stamped LinkTx), t.linkTx = s.linkTx ++ ext ∧
      (ext.map (·.ev.bytes) ++ t.queue.map (·.cmd)).Sublist (s.queue.map (·.cmd) ++ enqueuedCommands is)

/-- R57, R183: `link_tx` is written only by `SEQ_ISSUE`, with one whole queued command, the head, in one event. The
events' numbers are the model's own (log 13). -/
def Obligations.OnlyIssueWritesTheLink : Prop :=
  ∀ (i : Instr) (s t : State), exec i s = .next t → t.linkTx ≠ s.linkTx →
    i = .seqIssue ∧ ∃ (e : Entry) (rest : List Entry) (o : TxOutcome), s.queue = e :: rest ∧ s.delay = 0 ∧
      t.linkTx = s.linkTx ++ [s.stamp 0 { bytes := e.cmd, outcome := o }]

/-! ## Status, reset, and rules of the whole machine -/

/-- R190, R30: the 17 status registers, and 0 for every other index; the read changes nothing. That a length or parameter of 2^32 or
more reads modulo 2^32 is the model's reading (logs 2, 17). -/
def Obligations.StatusReadGivesTheRegister : Prop :=
  ∀ (idx : Byte) (s : State), exec (.statusRead idx) s = .next { s with response := .value (.status
    (([(match s.fmode with | .idle => 0 | .collect => 1), BitVec.ofNat 32 s.pending.length, s.cntCandidates,
       s.cntFramesValid, s.cntFramesInvalid, s.cntFramerOverflow, BitVec.ofNat 32 s.queue.length,
       s.delay, (if s.linkUp then 1 else 0), s.cntTxOk, s.cntTxFail, s.cntDropped, s.cntRejected,
       s.nextTicket, BitVec.ofNat 32 s.cfg.delayTicks, BitVec.ofNat 32 s.cfg.framerCap,
       BitVec.ofNat 32 s.cfg.seqQcap] : List Word).getD idx.toNat 0)) }

/-- R221, R222: the codes of the log events and of the completion statuses. -/
def Obligations.LogAndStatusCodesAreTheTables : Prop :=
  ([LogCode.candShort, .candLength, .candChecksum, .framerOverflow, .decodeShortF32, .decodeShortU8, .decodeShortComposite,
      .seqTxFailed, .seqDropped, .seqQueueFull, .seqBadCmdLength].map LogCode.code : List Byte) =
    [0x01, 0x02, 0x03, 0x04, 0x10, 0x11, 0x12, 0x20, 0x21, 0x22, 0x23] ∧
  ([Status.ok, .txFailed, .dropped, .rejected].map Status.code : List (BitVec 2)) = [0, 1, 2, 3] ∧
  (∀ c d : LogCode, c.code = d.code → c = d) ∧ (∀ c d : Status, c.code = d.code → c = d)

/-- R250, R34: every queued command completes DROPPED with its log, and then the block's state is the reset state;
what the streams held stays. The events' numbers are the model's own (log 13), and so is what the reset leaves of its
own fields (log 19). -/
def Obligations.BlockResetFlushesThenResets : Prop :=
  ∀ s : State, exec .blockReset s = .next
    { State.reset with
        cfg := s.cfg, frameOut := s.frameOut, linkTx := s.linkTx
        completion := s.completion ++ flushCompletions s.stepNo s.eventNo s.queue
        log := s.log ++ flushLogs s.stepNo s.eventNo s.queue
        eventNo := s.eventNo + 2 * s.queue.length
        stepNo := s.stepNo, draws := s.draws, requests := s.requests, response := .nothing }

/-- R27, R28: `link_up` is written only by `LINK_OPEN`, `LINK_CLOSE` and `BLOCK_RESET`; `next_ticket` goes up by one modulo 2^32
on every `SEQ_ENQUEUE`, and only `BLOCK_RESET` writes it otherwise. -/
def Obligations.LinkUpAndTicketHaveTheirWriters : Prop :=
  ∀ (i : Instr) (s t : State), exec i s = .next t →
    (i ≠ .linkOpen → i ≠ .linkClose → i ≠ .blockReset → t.linkUp = s.linkUp) ∧
    (∀ cmd, i = .seqEnqueue cmd → t.nextTicket = s.nextTicket + 1) ∧
    ((∀ cmd, i ≠ .seqEnqueue cmd) → i ≠ .blockReset → t.nextTicket = s.nextTicket)

/-- R30, the "written by" column for the counters: the framer's change only where bytes are received (a push, or the row
FRAME_INBOUND, log 7), the sequencer's only with their steps, and `BLOCK_RESET`. -/
def Obligations.CountersHaveTheirWriters : Prop :=
  ∀ (i : Instr) (s t : State), exec i s = .next t → i ≠ .blockReset →
    ((∀ x, i ≠ .framerPush x) → (∀ x, i ≠ .frameInbound x) →
      t.cntFramerOverflow = s.cntFramerOverflow ∧ t.cntCandidates = s.cntCandidates ∧
      t.cntFramesValid = s.cntFramesValid ∧ t.cntFramesInvalid = s.cntFramesInvalid) ∧
    (i ≠ .seqIssue → t.cntTxOk = s.cntTxOk ∧ t.cntTxFail = s.cntTxFail ∧ (i ≠ .linkClose → t.cntDropped = s.cntDropped)) ∧
    ((∀ x, i ≠ .seqEnqueue x) → t.cntRejected = s.cntRejected)

/-- R32, R31: whatever runs, the four streams only grow and the configuration stays. -/
def Obligations.StreamsOnlyGrow : Prop :=
  ∀ (i : Instr) (s t : State), exec i s = .next t →
    s.frameOut <+: t.frameOut ∧ s.log <+: t.log ∧ s.linkTx <+: t.linkTx ∧ s.completion <+: t.completion ∧ t.cfg = s.cfg

/-- The worker is the only user of the free answers: what they are is read by `SEQ_ISSUE` alone, while the link is up (R183,
log 11), so no other instruction advances the draw. The request list and the step counter are `step`'s alone (log 3). -/
def Obligations.HostInterfaceFieldsHaveTheirWriters : Prop :=
  ∀ (i : Instr) (s t : State), exec i s = .next t →
    t.requests = s.requests ∧ t.stepNo = s.stepNo ∧ ((i ≠ .seqIssue ∨ s.linkUp = false) → t.draws = s.draws)
end

