-- ==== Sys2Proof/Laws/State.lean ====
section
/-! SUPPORT. One lemma per field per update of the state, each by `rfl`, so that no proof unfolds a record update. -/

namespace Sys2Proof.Machine

/-! ### `State.emitFrame` -/

@[simp] theorem State.emitFrame_cfg (s : State) (e : FrameOut) : (s.emitFrame e).cfg = s.cfg := rfl
@[simp] theorem State.emitFrame_fmode (s : State) (e : FrameOut) : (s.emitFrame e).fmode = s.fmode := rfl
@[simp] theorem State.emitFrame_pending (s : State) (e : FrameOut) : (s.emitFrame e).pending = s.pending := rfl
@[simp] theorem State.emitFrame_queue (s : State) (e : FrameOut) : (s.emitFrame e).queue = s.queue := rfl
@[simp] theorem State.emitFrame_delay (s : State) (e : FrameOut) : (s.emitFrame e).delay = s.delay := rfl
@[simp] theorem State.emitFrame_linkUp (s : State) (e : FrameOut) : (s.emitFrame e).linkUp = s.linkUp := rfl
@[simp] theorem State.emitFrame_nextTicket (s : State) (e : FrameOut) : (s.emitFrame e).nextTicket = s.nextTicket := rfl
@[simp] theorem State.emitFrame_cntCandidates (s : State) (e : FrameOut) : (s.emitFrame e).cntCandidates = s.cntCandidates := rfl
@[simp] theorem State.emitFrame_cntFramesValid (s : State) (e : FrameOut) : (s.emitFrame e).cntFramesValid = s.cntFramesValid := rfl
@[simp] theorem State.emitFrame_cntFramesInvalid (s : State) (e : FrameOut) : (s.emitFrame e).cntFramesInvalid = s.cntFramesInvalid := rfl
@[simp] theorem State.emitFrame_cntFramerOverflow (s : State) (e : FrameOut) : (s.emitFrame e).cntFramerOverflow = s.cntFramerOverflow := rfl
@[simp] theorem State.emitFrame_cntTxOk (s : State) (e : FrameOut) : (s.emitFrame e).cntTxOk = s.cntTxOk := rfl
@[simp] theorem State.emitFrame_cntTxFail (s : State) (e : FrameOut) : (s.emitFrame e).cntTxFail = s.cntTxFail := rfl
@[simp] theorem State.emitFrame_cntDropped (s : State) (e : FrameOut) : (s.emitFrame e).cntDropped = s.cntDropped := rfl
@[simp] theorem State.emitFrame_cntRejected (s : State) (e : FrameOut) : (s.emitFrame e).cntRejected = s.cntRejected := rfl
@[simp] theorem State.emitFrame_frameOut (s : State) (e : FrameOut) : (s.emitFrame e).frameOut = s.frameOut ++ [s.stamp 0 e] := rfl
@[simp] theorem State.emitFrame_log (s : State) (e : FrameOut) : (s.emitFrame e).log = s.log := rfl
@[simp] theorem State.emitFrame_linkTx (s : State) (e : FrameOut) : (s.emitFrame e).linkTx = s.linkTx := rfl
@[simp] theorem State.emitFrame_completion (s : State) (e : FrameOut) : (s.emitFrame e).completion = s.completion := rfl
@[simp] theorem State.emitFrame_stepNo (s : State) (e : FrameOut) : (s.emitFrame e).stepNo = s.stepNo := rfl
@[simp] theorem State.emitFrame_eventNo (s : State) (e : FrameOut) : (s.emitFrame e).eventNo = s.eventNo + 1 := rfl
@[simp] theorem State.emitFrame_draws (s : State) (e : FrameOut) : (s.emitFrame e).draws = s.draws := rfl
@[simp] theorem State.emitFrame_requests (s : State) (e : FrameOut) : (s.emitFrame e).requests = s.requests := rfl
@[simp] theorem State.emitFrame_response (s : State) (e : FrameOut) : (s.emitFrame e).response = s.response := rfl

/-! ### `State.emitLog` -/

@[simp] theorem State.emitLog_cfg (s : State) (e : LogEvent) : (s.emitLog e).cfg = s.cfg := rfl
@[simp] theorem State.emitLog_fmode (s : State) (e : LogEvent) : (s.emitLog e).fmode = s.fmode := rfl
@[simp] theorem State.emitLog_pending (s : State) (e : LogEvent) : (s.emitLog e).pending = s.pending := rfl
@[simp] theorem State.emitLog_queue (s : State) (e : LogEvent) : (s.emitLog e).queue = s.queue := rfl
@[simp] theorem State.emitLog_delay (s : State) (e : LogEvent) : (s.emitLog e).delay = s.delay := rfl
@[simp] theorem State.emitLog_linkUp (s : State) (e : LogEvent) : (s.emitLog e).linkUp = s.linkUp := rfl
@[simp] theorem State.emitLog_nextTicket (s : State) (e : LogEvent) : (s.emitLog e).nextTicket = s.nextTicket := rfl
@[simp] theorem State.emitLog_cntCandidates (s : State) (e : LogEvent) : (s.emitLog e).cntCandidates = s.cntCandidates := rfl
@[simp] theorem State.emitLog_cntFramesValid (s : State) (e : LogEvent) : (s.emitLog e).cntFramesValid = s.cntFramesValid := rfl
@[simp] theorem State.emitLog_cntFramesInvalid (s : State) (e : LogEvent) : (s.emitLog e).cntFramesInvalid = s.cntFramesInvalid := rfl
@[simp] theorem State.emitLog_cntFramerOverflow (s : State) (e : LogEvent) : (s.emitLog e).cntFramerOverflow = s.cntFramerOverflow := rfl
@[simp] theorem State.emitLog_cntTxOk (s : State) (e : LogEvent) : (s.emitLog e).cntTxOk = s.cntTxOk := rfl
@[simp] theorem State.emitLog_cntTxFail (s : State) (e : LogEvent) : (s.emitLog e).cntTxFail = s.cntTxFail := rfl
@[simp] theorem State.emitLog_cntDropped (s : State) (e : LogEvent) : (s.emitLog e).cntDropped = s.cntDropped := rfl
@[simp] theorem State.emitLog_cntRejected (s : State) (e : LogEvent) : (s.emitLog e).cntRejected = s.cntRejected := rfl
@[simp] theorem State.emitLog_frameOut (s : State) (e : LogEvent) : (s.emitLog e).frameOut = s.frameOut := rfl
@[simp] theorem State.emitLog_log (s : State) (e : LogEvent) : (s.emitLog e).log = s.log ++ [s.stamp 0 e] := rfl
@[simp] theorem State.emitLog_linkTx (s : State) (e : LogEvent) : (s.emitLog e).linkTx = s.linkTx := rfl
@[simp] theorem State.emitLog_completion (s : State) (e : LogEvent) : (s.emitLog e).completion = s.completion := rfl
@[simp] theorem State.emitLog_stepNo (s : State) (e : LogEvent) : (s.emitLog e).stepNo = s.stepNo := rfl
@[simp] theorem State.emitLog_eventNo (s : State) (e : LogEvent) : (s.emitLog e).eventNo = s.eventNo + 1 := rfl
@[simp] theorem State.emitLog_draws (s : State) (e : LogEvent) : (s.emitLog e).draws = s.draws := rfl
@[simp] theorem State.emitLog_requests (s : State) (e : LogEvent) : (s.emitLog e).requests = s.requests := rfl
@[simp] theorem State.emitLog_response (s : State) (e : LogEvent) : (s.emitLog e).response = s.response := rfl

/-! ### `State.emitTx` -/

@[simp] theorem State.emitTx_cfg (s : State) (e : LinkTx) : (s.emitTx e).cfg = s.cfg := rfl
@[simp] theorem State.emitTx_fmode (s : State) (e : LinkTx) : (s.emitTx e).fmode = s.fmode := rfl
@[simp] theorem State.emitTx_pending (s : State) (e : LinkTx) : (s.emitTx e).pending = s.pending := rfl
@[simp] theorem State.emitTx_queue (s : State) (e : LinkTx) : (s.emitTx e).queue = s.queue := rfl
@[simp] theorem State.emitTx_delay (s : State) (e : LinkTx) : (s.emitTx e).delay = s.delay := rfl
@[simp] theorem State.emitTx_linkUp (s : State) (e : LinkTx) : (s.emitTx e).linkUp = s.linkUp := rfl
@[simp] theorem State.emitTx_nextTicket (s : State) (e : LinkTx) : (s.emitTx e).nextTicket = s.nextTicket := rfl
@[simp] theorem State.emitTx_cntCandidates (s : State) (e : LinkTx) : (s.emitTx e).cntCandidates = s.cntCandidates := rfl
@[simp] theorem State.emitTx_cntFramesValid (s : State) (e : LinkTx) : (s.emitTx e).cntFramesValid = s.cntFramesValid := rfl
@[simp] theorem State.emitTx_cntFramesInvalid (s : State) (e : LinkTx) : (s.emitTx e).cntFramesInvalid = s.cntFramesInvalid := rfl
@[simp] theorem State.emitTx_cntFramerOverflow (s : State) (e : LinkTx) : (s.emitTx e).cntFramerOverflow = s.cntFramerOverflow := rfl
@[simp] theorem State.emitTx_cntTxOk (s : State) (e : LinkTx) : (s.emitTx e).cntTxOk = s.cntTxOk := rfl
@[simp] theorem State.emitTx_cntTxFail (s : State) (e : LinkTx) : (s.emitTx e).cntTxFail = s.cntTxFail := rfl
@[simp] theorem State.emitTx_cntDropped (s : State) (e : LinkTx) : (s.emitTx e).cntDropped = s.cntDropped := rfl
@[simp] theorem State.emitTx_cntRejected (s : State) (e : LinkTx) : (s.emitTx e).cntRejected = s.cntRejected := rfl
@[simp] theorem State.emitTx_frameOut (s : State) (e : LinkTx) : (s.emitTx e).frameOut = s.frameOut := rfl
@[simp] theorem State.emitTx_log (s : State) (e : LinkTx) : (s.emitTx e).log = s.log := rfl
@[simp] theorem State.emitTx_linkTx (s : State) (e : LinkTx) : (s.emitTx e).linkTx = s.linkTx ++ [s.stamp 0 e] := rfl
@[simp] theorem State.emitTx_completion (s : State) (e : LinkTx) : (s.emitTx e).completion = s.completion := rfl
@[simp] theorem State.emitTx_stepNo (s : State) (e : LinkTx) : (s.emitTx e).stepNo = s.stepNo := rfl
@[simp] theorem State.emitTx_eventNo (s : State) (e : LinkTx) : (s.emitTx e).eventNo = s.eventNo + 1 := rfl
@[simp] theorem State.emitTx_draws (s : State) (e : LinkTx) : (s.emitTx e).draws = s.draws := rfl
@[simp] theorem State.emitTx_requests (s : State) (e : LinkTx) : (s.emitTx e).requests = s.requests := rfl
@[simp] theorem State.emitTx_response (s : State) (e : LinkTx) : (s.emitTx e).response = s.response := rfl

/-! ### `State.emitCompletion` -/

@[simp] theorem State.emitCompletion_cfg (s : State) (e : Completion) : (s.emitCompletion e).cfg = s.cfg := rfl
@[simp] theorem State.emitCompletion_fmode (s : State) (e : Completion) : (s.emitCompletion e).fmode = s.fmode := rfl
@[simp] theorem State.emitCompletion_pending (s : State) (e : Completion) : (s.emitCompletion e).pending = s.pending := rfl
@[simp] theorem State.emitCompletion_queue (s : State) (e : Completion) : (s.emitCompletion e).queue = s.queue := rfl
@[simp] theorem State.emitCompletion_delay (s : State) (e : Completion) : (s.emitCompletion e).delay = s.delay := rfl
@[simp] theorem State.emitCompletion_linkUp (s : State) (e : Completion) : (s.emitCompletion e).linkUp = s.linkUp := rfl
@[simp] theorem State.emitCompletion_nextTicket (s : State) (e : Completion) : (s.emitCompletion e).nextTicket = s.nextTicket := rfl
@[simp] theorem State.emitCompletion_cntCandidates (s : State) (e : Completion) : (s.emitCompletion e).cntCandidates = s.cntCandidates := rfl
@[simp] theorem State.emitCompletion_cntFramesValid (s : State) (e : Completion) : (s.emitCompletion e).cntFramesValid = s.cntFramesValid := rfl
@[simp] theorem State.emitCompletion_cntFramesInvalid (s : State) (e : Completion) : (s.emitCompletion e).cntFramesInvalid = s.cntFramesInvalid := rfl
@[simp] theorem State.emitCompletion_cntFramerOverflow (s : State) (e : Completion) : (s.emitCompletion e).cntFramerOverflow = s.cntFramerOverflow := rfl
@[simp] theorem State.emitCompletion_cntTxOk (s : State) (e : Completion) : (s.emitCompletion e).cntTxOk = s.cntTxOk := rfl
@[simp] theorem State.emitCompletion_cntTxFail (s : State) (e : Completion) : (s.emitCompletion e).cntTxFail = s.cntTxFail := rfl
@[simp] theorem State.emitCompletion_cntDropped (s : State) (e : Completion) : (s.emitCompletion e).cntDropped = s.cntDropped := rfl
@[simp] theorem State.emitCompletion_cntRejected (s : State) (e : Completion) : (s.emitCompletion e).cntRejected = s.cntRejected := rfl
@[simp] theorem State.emitCompletion_frameOut (s : State) (e : Completion) : (s.emitCompletion e).frameOut = s.frameOut := rfl
@[simp] theorem State.emitCompletion_log (s : State) (e : Completion) : (s.emitCompletion e).log = s.log := rfl
@[simp] theorem State.emitCompletion_linkTx (s : State) (e : Completion) : (s.emitCompletion e).linkTx = s.linkTx := rfl
@[simp] theorem State.emitCompletion_completion (s : State) (e : Completion) : (s.emitCompletion e).completion = s.completion ++ [s.stamp 0 e] := rfl
@[simp] theorem State.emitCompletion_stepNo (s : State) (e : Completion) : (s.emitCompletion e).stepNo = s.stepNo := rfl
@[simp] theorem State.emitCompletion_eventNo (s : State) (e : Completion) : (s.emitCompletion e).eventNo = s.eventNo + 1 := rfl
@[simp] theorem State.emitCompletion_draws (s : State) (e : Completion) : (s.emitCompletion e).draws = s.draws := rfl
@[simp] theorem State.emitCompletion_requests (s : State) (e : Completion) : (s.emitCompletion e).requests = s.requests := rfl
@[simp] theorem State.emitCompletion_response (s : State) (e : Completion) : (s.emitCompletion e).response = s.response := rfl

/-! ### `State.answer` -/

@[simp] theorem State.answer_cfg (s : State) (v : Value) : (s.answer v).cfg = s.cfg := rfl
@[simp] theorem State.answer_fmode (s : State) (v : Value) : (s.answer v).fmode = s.fmode := rfl
@[simp] theorem State.answer_pending (s : State) (v : Value) : (s.answer v).pending = s.pending := rfl
@[simp] theorem State.answer_queue (s : State) (v : Value) : (s.answer v).queue = s.queue := rfl
@[simp] theorem State.answer_delay (s : State) (v : Value) : (s.answer v).delay = s.delay := rfl
@[simp] theorem State.answer_linkUp (s : State) (v : Value) : (s.answer v).linkUp = s.linkUp := rfl
@[simp] theorem State.answer_nextTicket (s : State) (v : Value) : (s.answer v).nextTicket = s.nextTicket := rfl
@[simp] theorem State.answer_cntCandidates (s : State) (v : Value) : (s.answer v).cntCandidates = s.cntCandidates := rfl
@[simp] theorem State.answer_cntFramesValid (s : State) (v : Value) : (s.answer v).cntFramesValid = s.cntFramesValid := rfl
@[simp] theorem State.answer_cntFramesInvalid (s : State) (v : Value) : (s.answer v).cntFramesInvalid = s.cntFramesInvalid := rfl
@[simp] theorem State.answer_cntFramerOverflow (s : State) (v : Value) : (s.answer v).cntFramerOverflow = s.cntFramerOverflow := rfl
@[simp] theorem State.answer_cntTxOk (s : State) (v : Value) : (s.answer v).cntTxOk = s.cntTxOk := rfl
@[simp] theorem State.answer_cntTxFail (s : State) (v : Value) : (s.answer v).cntTxFail = s.cntTxFail := rfl
@[simp] theorem State.answer_cntDropped (s : State) (v : Value) : (s.answer v).cntDropped = s.cntDropped := rfl
@[simp] theorem State.answer_cntRejected (s : State) (v : Value) : (s.answer v).cntRejected = s.cntRejected := rfl
@[simp] theorem State.answer_frameOut (s : State) (v : Value) : (s.answer v).frameOut = s.frameOut := rfl
@[simp] theorem State.answer_log (s : State) (v : Value) : (s.answer v).log = s.log := rfl
@[simp] theorem State.answer_linkTx (s : State) (v : Value) : (s.answer v).linkTx = s.linkTx := rfl
@[simp] theorem State.answer_completion (s : State) (v : Value) : (s.answer v).completion = s.completion := rfl
@[simp] theorem State.answer_stepNo (s : State) (v : Value) : (s.answer v).stepNo = s.stepNo := rfl
@[simp] theorem State.answer_eventNo (s : State) (v : Value) : (s.answer v).eventNo = s.eventNo := rfl
@[simp] theorem State.answer_draws (s : State) (v : Value) : (s.answer v).draws = s.draws := rfl
@[simp] theorem State.answer_requests (s : State) (v : Value) : (s.answer v).requests = s.requests := rfl
@[simp] theorem State.answer_response (s : State) (v : Value) : (s.answer v).response = .value v := rfl

/-! ### `State.done` -/

@[simp] theorem State.done_cfg (s : State) : (s.done).cfg = s.cfg := rfl
@[simp] theorem State.done_fmode (s : State) : (s.done).fmode = s.fmode := rfl
@[simp] theorem State.done_pending (s : State) : (s.done).pending = s.pending := rfl
@[simp] theorem State.done_queue (s : State) : (s.done).queue = s.queue := rfl
@[simp] theorem State.done_delay (s : State) : (s.done).delay = s.delay := rfl
@[simp] theorem State.done_linkUp (s : State) : (s.done).linkUp = s.linkUp := rfl
@[simp] theorem State.done_nextTicket (s : State) : (s.done).nextTicket = s.nextTicket := rfl
@[simp] theorem State.done_cntCandidates (s : State) : (s.done).cntCandidates = s.cntCandidates := rfl
@[simp] theorem State.done_cntFramesValid (s : State) : (s.done).cntFramesValid = s.cntFramesValid := rfl
@[simp] theorem State.done_cntFramesInvalid (s : State) : (s.done).cntFramesInvalid = s.cntFramesInvalid := rfl
@[simp] theorem State.done_cntFramerOverflow (s : State) : (s.done).cntFramerOverflow = s.cntFramerOverflow := rfl
@[simp] theorem State.done_cntTxOk (s : State) : (s.done).cntTxOk = s.cntTxOk := rfl
@[simp] theorem State.done_cntTxFail (s : State) : (s.done).cntTxFail = s.cntTxFail := rfl
@[simp] theorem State.done_cntDropped (s : State) : (s.done).cntDropped = s.cntDropped := rfl
@[simp] theorem State.done_cntRejected (s : State) : (s.done).cntRejected = s.cntRejected := rfl
@[simp] theorem State.done_frameOut (s : State) : (s.done).frameOut = s.frameOut := rfl
@[simp] theorem State.done_log (s : State) : (s.done).log = s.log := rfl
@[simp] theorem State.done_linkTx (s : State) : (s.done).linkTx = s.linkTx := rfl
@[simp] theorem State.done_completion (s : State) : (s.done).completion = s.completion := rfl
@[simp] theorem State.done_stepNo (s : State) : (s.done).stepNo = s.stepNo := rfl
@[simp] theorem State.done_eventNo (s : State) : (s.done).eventNo = s.eventNo := rfl
@[simp] theorem State.done_draws (s : State) : (s.done).draws = s.draws := rfl
@[simp] theorem State.done_requests (s : State) : (s.done).requests = s.requests := rfl
@[simp] theorem State.done_response (s : State) : (s.done).response = .nothing := rfl

/-! ### `State.raiseFault` -/

@[simp] theorem State.raiseFault_cfg (s : State) (r : FaultReason) : (s.raiseFault r).cfg = s.cfg := rfl
@[simp] theorem State.raiseFault_fmode (s : State) (r : FaultReason) : (s.raiseFault r).fmode = s.fmode := rfl
@[simp] theorem State.raiseFault_pending (s : State) (r : FaultReason) : (s.raiseFault r).pending = s.pending := rfl
@[simp] theorem State.raiseFault_queue (s : State) (r : FaultReason) : (s.raiseFault r).queue = s.queue := rfl
@[simp] theorem State.raiseFault_delay (s : State) (r : FaultReason) : (s.raiseFault r).delay = s.delay := rfl
@[simp] theorem State.raiseFault_linkUp (s : State) (r : FaultReason) : (s.raiseFault r).linkUp = s.linkUp := rfl
@[simp] theorem State.raiseFault_nextTicket (s : State) (r : FaultReason) : (s.raiseFault r).nextTicket = s.nextTicket := rfl
@[simp] theorem State.raiseFault_cntCandidates (s : State) (r : FaultReason) : (s.raiseFault r).cntCandidates = s.cntCandidates := rfl
@[simp] theorem State.raiseFault_cntFramesValid (s : State) (r : FaultReason) : (s.raiseFault r).cntFramesValid = s.cntFramesValid := rfl
@[simp] theorem State.raiseFault_cntFramesInvalid (s : State) (r : FaultReason) : (s.raiseFault r).cntFramesInvalid = s.cntFramesInvalid := rfl
@[simp] theorem State.raiseFault_cntFramerOverflow (s : State) (r : FaultReason) : (s.raiseFault r).cntFramerOverflow = s.cntFramerOverflow := rfl
@[simp] theorem State.raiseFault_cntTxOk (s : State) (r : FaultReason) : (s.raiseFault r).cntTxOk = s.cntTxOk := rfl
@[simp] theorem State.raiseFault_cntTxFail (s : State) (r : FaultReason) : (s.raiseFault r).cntTxFail = s.cntTxFail := rfl
@[simp] theorem State.raiseFault_cntDropped (s : State) (r : FaultReason) : (s.raiseFault r).cntDropped = s.cntDropped := rfl
@[simp] theorem State.raiseFault_cntRejected (s : State) (r : FaultReason) : (s.raiseFault r).cntRejected = s.cntRejected := rfl
@[simp] theorem State.raiseFault_frameOut (s : State) (r : FaultReason) : (s.raiseFault r).frameOut = s.frameOut := rfl
@[simp] theorem State.raiseFault_log (s : State) (r : FaultReason) : (s.raiseFault r).log = s.log := rfl
@[simp] theorem State.raiseFault_linkTx (s : State) (r : FaultReason) : (s.raiseFault r).linkTx = s.linkTx := rfl
@[simp] theorem State.raiseFault_completion (s : State) (r : FaultReason) : (s.raiseFault r).completion = s.completion := rfl
@[simp] theorem State.raiseFault_stepNo (s : State) (r : FaultReason) : (s.raiseFault r).stepNo = s.stepNo := rfl
@[simp] theorem State.raiseFault_eventNo (s : State) (r : FaultReason) : (s.raiseFault r).eventNo = s.eventNo := rfl
@[simp] theorem State.raiseFault_draws (s : State) (r : FaultReason) : (s.raiseFault r).draws = s.draws := rfl
@[simp] theorem State.raiseFault_requests (s : State) (r : FaultReason) : (s.raiseFault r).requests = s.requests := rfl
@[simp] theorem State.raiseFault_response (s : State) (r : FaultReason) : (s.raiseFault r).response = .fault r := rfl

/-! ### `State.ignore` -/

@[simp] theorem State.ignore_cfg (s : State) (r : DecodeError) : (s.ignore r).cfg = s.cfg := rfl
@[simp] theorem State.ignore_fmode (s : State) (r : DecodeError) : (s.ignore r).fmode = s.fmode := rfl
@[simp] theorem State.ignore_pending (s : State) (r : DecodeError) : (s.ignore r).pending = s.pending := rfl
@[simp] theorem State.ignore_queue (s : State) (r : DecodeError) : (s.ignore r).queue = s.queue := rfl
@[simp] theorem State.ignore_delay (s : State) (r : DecodeError) : (s.ignore r).delay = s.delay := rfl
@[simp] theorem State.ignore_linkUp (s : State) (r : DecodeError) : (s.ignore r).linkUp = s.linkUp := rfl
@[simp] theorem State.ignore_nextTicket (s : State) (r : DecodeError) : (s.ignore r).nextTicket = s.nextTicket := rfl
@[simp] theorem State.ignore_cntCandidates (s : State) (r : DecodeError) : (s.ignore r).cntCandidates = s.cntCandidates := rfl
@[simp] theorem State.ignore_cntFramesValid (s : State) (r : DecodeError) : (s.ignore r).cntFramesValid = s.cntFramesValid := rfl
@[simp] theorem State.ignore_cntFramesInvalid (s : State) (r : DecodeError) : (s.ignore r).cntFramesInvalid = s.cntFramesInvalid := rfl
@[simp] theorem State.ignore_cntFramerOverflow (s : State) (r : DecodeError) : (s.ignore r).cntFramerOverflow = s.cntFramerOverflow := rfl
@[simp] theorem State.ignore_cntTxOk (s : State) (r : DecodeError) : (s.ignore r).cntTxOk = s.cntTxOk := rfl
@[simp] theorem State.ignore_cntTxFail (s : State) (r : DecodeError) : (s.ignore r).cntTxFail = s.cntTxFail := rfl
@[simp] theorem State.ignore_cntDropped (s : State) (r : DecodeError) : (s.ignore r).cntDropped = s.cntDropped := rfl
@[simp] theorem State.ignore_cntRejected (s : State) (r : DecodeError) : (s.ignore r).cntRejected = s.cntRejected := rfl
@[simp] theorem State.ignore_frameOut (s : State) (r : DecodeError) : (s.ignore r).frameOut = s.frameOut := rfl
@[simp] theorem State.ignore_log (s : State) (r : DecodeError) : (s.ignore r).log = s.log := rfl
@[simp] theorem State.ignore_linkTx (s : State) (r : DecodeError) : (s.ignore r).linkTx = s.linkTx := rfl
@[simp] theorem State.ignore_completion (s : State) (r : DecodeError) : (s.ignore r).completion = s.completion := rfl
@[simp] theorem State.ignore_stepNo (s : State) (r : DecodeError) : (s.ignore r).stepNo = s.stepNo := rfl
@[simp] theorem State.ignore_eventNo (s : State) (r : DecodeError) : (s.ignore r).eventNo = s.eventNo := rfl
@[simp] theorem State.ignore_draws (s : State) (r : DecodeError) : (s.ignore r).draws = s.draws := rfl
@[simp] theorem State.ignore_requests (s : State) (r : DecodeError) : (s.ignore r).requests = s.requests := rfl
@[simp] theorem State.ignore_response (s : State) (r : DecodeError) : (s.ignore r).response = .ignored r := rfl

/-! ### `State.passTurn` -/

@[simp] theorem State.passTurn_cfg (s : State) : (s.passTurn).cfg = s.cfg := rfl
@[simp] theorem State.passTurn_fmode (s : State) : (s.passTurn).fmode = s.fmode := rfl
@[simp] theorem State.passTurn_pending (s : State) : (s.passTurn).pending = s.pending := rfl
@[simp] theorem State.passTurn_queue (s : State) : (s.passTurn).queue = s.queue := rfl
@[simp] theorem State.passTurn_delay (s : State) : (s.passTurn).delay = s.delay := rfl
@[simp] theorem State.passTurn_linkUp (s : State) : (s.passTurn).linkUp = s.linkUp := rfl
@[simp] theorem State.passTurn_nextTicket (s : State) : (s.passTurn).nextTicket = s.nextTicket := rfl
@[simp] theorem State.passTurn_cntCandidates (s : State) : (s.passTurn).cntCandidates = s.cntCandidates := rfl
@[simp] theorem State.passTurn_cntFramesValid (s : State) : (s.passTurn).cntFramesValid = s.cntFramesValid := rfl
@[simp] theorem State.passTurn_cntFramesInvalid (s : State) : (s.passTurn).cntFramesInvalid = s.cntFramesInvalid := rfl
@[simp] theorem State.passTurn_cntFramerOverflow (s : State) : (s.passTurn).cntFramerOverflow = s.cntFramerOverflow := rfl
@[simp] theorem State.passTurn_cntTxOk (s : State) : (s.passTurn).cntTxOk = s.cntTxOk := rfl
@[simp] theorem State.passTurn_cntTxFail (s : State) : (s.passTurn).cntTxFail = s.cntTxFail := rfl
@[simp] theorem State.passTurn_cntDropped (s : State) : (s.passTurn).cntDropped = s.cntDropped := rfl
@[simp] theorem State.passTurn_cntRejected (s : State) : (s.passTurn).cntRejected = s.cntRejected := rfl
@[simp] theorem State.passTurn_frameOut (s : State) : (s.passTurn).frameOut = s.frameOut := rfl
@[simp] theorem State.passTurn_log (s : State) : (s.passTurn).log = s.log := rfl
@[simp] theorem State.passTurn_linkTx (s : State) : (s.passTurn).linkTx = s.linkTx := rfl
@[simp] theorem State.passTurn_completion (s : State) : (s.passTurn).completion = s.completion := rfl
@[simp] theorem State.passTurn_stepNo (s : State) : (s.passTurn).stepNo = s.stepNo := rfl
@[simp] theorem State.passTurn_eventNo (s : State) : (s.passTurn).eventNo = s.eventNo := rfl
@[simp] theorem State.passTurn_draws (s : State) : (s.passTurn).draws = s.draws := rfl
@[simp] theorem State.passTurn_requests (s : State) : (s.passTurn).requests = s.requests := rfl
@[simp] theorem State.passTurn_response (s : State) : (s.passTurn).response = .noStep := rfl

/-! ### `State.framerClear` -/

@[simp] theorem State.framerClear_cfg (s : State) : (s.framerClear).cfg = s.cfg := rfl
@[simp] theorem State.framerClear_fmode (s : State) : (s.framerClear).fmode = .idle := rfl
@[simp] theorem State.framerClear_pending (s : State) : (s.framerClear).pending = [] := rfl
@[simp] theorem State.framerClear_queue (s : State) : (s.framerClear).queue = s.queue := rfl
@[simp] theorem State.framerClear_delay (s : State) : (s.framerClear).delay = s.delay := rfl
@[simp] theorem State.framerClear_linkUp (s : State) : (s.framerClear).linkUp = s.linkUp := rfl
@[simp] theorem State.framerClear_nextTicket (s : State) : (s.framerClear).nextTicket = s.nextTicket := rfl
@[simp] theorem State.framerClear_cntCandidates (s : State) : (s.framerClear).cntCandidates = s.cntCandidates := rfl
@[simp] theorem State.framerClear_cntFramesValid (s : State) : (s.framerClear).cntFramesValid = s.cntFramesValid := rfl
@[simp] theorem State.framerClear_cntFramesInvalid (s : State) : (s.framerClear).cntFramesInvalid = s.cntFramesInvalid := rfl
@[simp] theorem State.framerClear_cntFramerOverflow (s : State) : (s.framerClear).cntFramerOverflow = s.cntFramerOverflow := rfl
@[simp] theorem State.framerClear_cntTxOk (s : State) : (s.framerClear).cntTxOk = s.cntTxOk := rfl
@[simp] theorem State.framerClear_cntTxFail (s : State) : (s.framerClear).cntTxFail = s.cntTxFail := rfl
@[simp] theorem State.framerClear_cntDropped (s : State) : (s.framerClear).cntDropped = s.cntDropped := rfl
@[simp] theorem State.framerClear_cntRejected (s : State) : (s.framerClear).cntRejected = s.cntRejected := rfl
@[simp] theorem State.framerClear_frameOut (s : State) : (s.framerClear).frameOut = s.frameOut := rfl
@[simp] theorem State.framerClear_log (s : State) : (s.framerClear).log = s.log := rfl
@[simp] theorem State.framerClear_linkTx (s : State) : (s.framerClear).linkTx = s.linkTx := rfl
@[simp] theorem State.framerClear_completion (s : State) : (s.framerClear).completion = s.completion := rfl
@[simp] theorem State.framerClear_stepNo (s : State) : (s.framerClear).stepNo = s.stepNo := rfl
@[simp] theorem State.framerClear_eventNo (s : State) : (s.framerClear).eventNo = s.eventNo := rfl
@[simp] theorem State.framerClear_draws (s : State) : (s.framerClear).draws = s.draws := rfl
@[simp] theorem State.framerClear_requests (s : State) : (s.framerClear).requests = s.requests := rfl
@[simp] theorem State.framerClear_response (s : State) : (s.framerClear).response = s.response := rfl

/-! ### `State.takeRequest` -/

@[simp] theorem State.takeRequest_cfg (s : State) (rest : List Request) : (s.takeRequest rest).cfg = s.cfg := rfl
@[simp] theorem State.takeRequest_fmode (s : State) (rest : List Request) : (s.takeRequest rest).fmode = s.fmode := rfl
@[simp] theorem State.takeRequest_pending (s : State) (rest : List Request) : (s.takeRequest rest).pending = s.pending := rfl
@[simp] theorem State.takeRequest_queue (s : State) (rest : List Request) : (s.takeRequest rest).queue = s.queue := rfl
@[simp] theorem State.takeRequest_delay (s : State) (rest : List Request) : (s.takeRequest rest).delay = s.delay := rfl
@[simp] theorem State.takeRequest_linkUp (s : State) (rest : List Request) : (s.takeRequest rest).linkUp = s.linkUp := rfl
@[simp] theorem State.takeRequest_nextTicket (s : State) (rest : List Request) : (s.takeRequest rest).nextTicket = s.nextTicket := rfl
@[simp] theorem State.takeRequest_cntCandidates (s : State) (rest : List Request) : (s.takeRequest rest).cntCandidates = s.cntCandidates := rfl
@[simp] theorem State.takeRequest_cntFramesValid (s : State) (rest : List Request) : (s.takeRequest rest).cntFramesValid = s.cntFramesValid := rfl
@[simp] theorem State.takeRequest_cntFramesInvalid (s : State) (rest : List Request) : (s.takeRequest rest).cntFramesInvalid = s.cntFramesInvalid := rfl
@[simp] theorem State.takeRequest_cntFramerOverflow (s : State) (rest : List Request) : (s.takeRequest rest).cntFramerOverflow = s.cntFramerOverflow := rfl
@[simp] theorem State.takeRequest_cntTxOk (s : State) (rest : List Request) : (s.takeRequest rest).cntTxOk = s.cntTxOk := rfl
@[simp] theorem State.takeRequest_cntTxFail (s : State) (rest : List Request) : (s.takeRequest rest).cntTxFail = s.cntTxFail := rfl
@[simp] theorem State.takeRequest_cntDropped (s : State) (rest : List Request) : (s.takeRequest rest).cntDropped = s.cntDropped := rfl
@[simp] theorem State.takeRequest_cntRejected (s : State) (rest : List Request) : (s.takeRequest rest).cntRejected = s.cntRejected := rfl
@[simp] theorem State.takeRequest_frameOut (s : State) (rest : List Request) : (s.takeRequest rest).frameOut = s.frameOut := rfl
@[simp] theorem State.takeRequest_log (s : State) (rest : List Request) : (s.takeRequest rest).log = s.log := rfl
@[simp] theorem State.takeRequest_linkTx (s : State) (rest : List Request) : (s.takeRequest rest).linkTx = s.linkTx := rfl
@[simp] theorem State.takeRequest_completion (s : State) (rest : List Request) : (s.takeRequest rest).completion = s.completion := rfl
@[simp] theorem State.takeRequest_stepNo (s : State) (rest : List Request) : (s.takeRequest rest).stepNo = s.stepNo + 1 := rfl
@[simp] theorem State.takeRequest_eventNo (s : State) (rest : List Request) : (s.takeRequest rest).eventNo = s.eventNo := rfl
@[simp] theorem State.takeRequest_draws (s : State) (rest : List Request) : (s.takeRequest rest).draws = s.draws := rfl
@[simp] theorem State.takeRequest_requests (s : State) (rest : List Request) : (s.takeRequest rest).requests = rest := rfl
@[simp] theorem State.takeRequest_response (s : State) (rest : List Request) : (s.takeRequest rest).response = s.response := rfl

/-! ### `State.zeroRegisters` -/

@[simp] theorem State.zeroRegisters_cfg (s : State) : (s.zeroRegisters).cfg = s.cfg := rfl
@[simp] theorem State.zeroRegisters_fmode (s : State) : (s.zeroRegisters).fmode = s.fmode := rfl
@[simp] theorem State.zeroRegisters_pending (s : State) : (s.zeroRegisters).pending = s.pending := rfl
@[simp] theorem State.zeroRegisters_queue (s : State) : (s.zeroRegisters).queue = s.queue := rfl
@[simp] theorem State.zeroRegisters_delay (s : State) : (s.zeroRegisters).delay = 0 := rfl
@[simp] theorem State.zeroRegisters_linkUp (s : State) : (s.zeroRegisters).linkUp = false := rfl
@[simp] theorem State.zeroRegisters_nextTicket (s : State) : (s.zeroRegisters).nextTicket = 0 := rfl
@[simp] theorem State.zeroRegisters_cntCandidates (s : State) : (s.zeroRegisters).cntCandidates = 0 := rfl
@[simp] theorem State.zeroRegisters_cntFramesValid (s : State) : (s.zeroRegisters).cntFramesValid = 0 := rfl
@[simp] theorem State.zeroRegisters_cntFramesInvalid (s : State) : (s.zeroRegisters).cntFramesInvalid = 0 := rfl
@[simp] theorem State.zeroRegisters_cntFramerOverflow (s : State) : (s.zeroRegisters).cntFramerOverflow = 0 := rfl
@[simp] theorem State.zeroRegisters_cntTxOk (s : State) : (s.zeroRegisters).cntTxOk = 0 := rfl
@[simp] theorem State.zeroRegisters_cntTxFail (s : State) : (s.zeroRegisters).cntTxFail = 0 := rfl
@[simp] theorem State.zeroRegisters_cntDropped (s : State) : (s.zeroRegisters).cntDropped = 0 := rfl
@[simp] theorem State.zeroRegisters_cntRejected (s : State) : (s.zeroRegisters).cntRejected = 0 := rfl
@[simp] theorem State.zeroRegisters_frameOut (s : State) : (s.zeroRegisters).frameOut = s.frameOut := rfl
@[simp] theorem State.zeroRegisters_log (s : State) : (s.zeroRegisters).log = s.log := rfl
@[simp] theorem State.zeroRegisters_linkTx (s : State) : (s.zeroRegisters).linkTx = s.linkTx := rfl
@[simp] theorem State.zeroRegisters_completion (s : State) : (s.zeroRegisters).completion = s.completion := rfl
@[simp] theorem State.zeroRegisters_stepNo (s : State) : (s.zeroRegisters).stepNo = s.stepNo := rfl
@[simp] theorem State.zeroRegisters_eventNo (s : State) : (s.zeroRegisters).eventNo = s.eventNo := rfl
@[simp] theorem State.zeroRegisters_draws (s : State) : (s.zeroRegisters).draws = s.draws := rfl
@[simp] theorem State.zeroRegisters_requests (s : State) : (s.zeroRegisters).requests = s.requests := rfl
@[simp] theorem State.zeroRegisters_response (s : State) : (s.zeroRegisters).response = s.response := rfl

/-- Two states are equal when their fields are. -/
theorem State.ext_fields {s t : State} (h0 : s.cfg = t.cfg) (h1 : s.fmode = t.fmode) (h2 : s.pending = t.pending)
    (h3 : s.queue = t.queue) (h4 : s.delay = t.delay) (h5 : s.linkUp = t.linkUp) (h6 : s.nextTicket = t.nextTicket)
    (h7 : s.cntCandidates = t.cntCandidates) (h8 : s.cntFramesValid = t.cntFramesValid)
    (h9 : s.cntFramesInvalid = t.cntFramesInvalid) (h10 : s.cntFramerOverflow = t.cntFramerOverflow)
    (h11 : s.cntTxOk = t.cntTxOk) (h12 : s.cntTxFail = t.cntTxFail) (h13 : s.cntDropped = t.cntDropped)
    (h14 : s.cntRejected = t.cntRejected) (h15 : s.frameOut = t.frameOut) (h16 : s.log = t.log)
    (h17 : s.linkTx = t.linkTx) (h18 : s.completion = t.completion) (h19 : s.stepNo = t.stepNo)
    (h20 : s.eventNo = t.eventNo) (h21 : s.draws = t.draws) (h22 : s.requests = t.requests)
    (h23 : s.response = t.response) : s = t := by
  cases s
  cases t
  simp_all

end Sys2Proof.Machine
end

