-- ==== Sys2Proof/Laws/Codec.lean ====
section
/-! SUPPORT. What the pure codec functions do: one lemma per function. -/

namespace Sys2Proof.Machine

/-! ### Sums and checksums -/

@[simp] theorem byteSum_nil : byteSum [] = 0 := rfl
@[simp] theorem byteSum_cons (b : Byte) (bs : Bytes) : byteSum (b :: bs) = b.toNat + byteSum bs := by simp [byteSum]
@[simp] theorem byteSum_append (as bs : Bytes) : byteSum (as ++ bs) = byteSum as + byteSum bs := by simp [byteSum]

theorem checksum_toNat (reg len : Byte) (payload : Bytes) :
    (checksum reg len payload).toNat = (reg.toNat + len.toNat + byteSum payload) % 256 := by
  simp [checksum]

/-- The sum over naturals, reduced once, is the 8-bit sum wrapped at every step (R100). -/
theorem foldl_add_eq (payload : Bytes) (acc : Byte) :
    payload.foldl (· + ·) acc = BitVec.ofNat 8 (acc.toNat + byteSum payload) := by
  induction payload generalizing acc with
  | nil => simp
  | cons b bs ih =>
    rw [List.foldl_cons, ih]
    apply BitVec.eq_of_toNat_eq
    simp only [BitVec.toNat_add, BitVec.toNat_ofNat, byteSum_cons]
    omega

theorem checksum_eq_foldl (reg len : Byte) (payload : Bytes) :
    checksum reg len payload = payload.foldl (· + ·) (reg + len) := by
  rw [foldl_add_eq]
  apply BitVec.eq_of_toNat_eq
  rw [checksum_toNat]
  simp only [BitVec.toNat_add, BitVec.toNat_ofNat]
  omega

/-- Replacing one byte moves the sum by the difference of the bytes. -/
theorem byteSum_set (bs : Bytes) (k : Nat) (a : Byte) (h : k < bs.length) :
    byteSum (bs.set k a) + (byteAt bs k).toNat = byteSum bs + a.toNat := by
  induction bs generalizing k with
  | nil => simp at h
  | cons b bs ih =>
    cases k with
    | zero => simp [byteAt]; omega
    | succ k =>
      have := ih k (by simpa using h)
      simp [byteAt] at this ⊢
      omega

/-! ### Bytes, slices and words -/

theorem byteAt_cons_zero (b : Byte) (bs : Bytes) : byteAt (b :: bs) 0 = b := rfl
theorem byteAt_cons_succ (b : Byte) (bs : Bytes) (k : Nat) : byteAt (b :: bs) (k + 1) = byteAt bs k := rfl

/-- `le32` of four bytes, as a number: least significant byte first (R10). -/
theorem le32_toNat (bs : Bytes) (k : Nat) :
    (le32 bs k).toNat = (byteAt bs k).toNat + 2 ^ 8 * (byteAt bs (k + 1)).toNat +
      2 ^ 16 * (byteAt bs (k + 2)).toNat + 2 ^ 24 * (byteAt bs (k + 3)).toNat := by
  unfold le32
  generalize byteAt bs k = b0
  generalize byteAt bs (k + 1) = b1
  generalize byteAt bs (k + 2) = b2
  generalize byteAt bs (k + 3) = b3
  have h0 := b0.isLt
  have h1 := b1.isLt
  have h2 := b2.isLt
  have h3 := b3.isLt
  simp only [BitVec.toNat_or, BitVec.toNat_shiftLeft, BitVec.toNat_setWidth, Nat.shiftLeft_eq]
  rw [Nat.mod_eq_of_lt (a := b0.toNat) (by omega), Nat.mod_eq_of_lt (a := b1.toNat) (by omega),
    Nat.mod_eq_of_lt (a := b2.toNat) (by omega), Nat.mod_eq_of_lt (a := b3.toNat) (by omega),
    Nat.mod_eq_of_lt (a := b1.toNat * 2 ^ 8) (by omega), Nat.mod_eq_of_lt (a := b2.toNat * 2 ^ 16) (by omega),
    Nat.mod_eq_of_lt (a := b3.toNat * 2 ^ 24) (by omega)]
  have e1 : b0.toNat ||| b1.toNat * 2 ^ 8 = b0.toNat + b1.toNat * 2 ^ 8 := by
    rw [Nat.lor_comm, Nat.mul_comm, ← Nat.two_pow_add_eq_or_of_lt h0]; omega
  have e2 : (b0.toNat + b1.toNat * 2 ^ 8) ||| b2.toNat * 2 ^ 16 = b0.toNat + b1.toNat * 2 ^ 8 + b2.toNat * 2 ^ 16 := by
    rw [Nat.lor_comm, Nat.mul_comm, ← Nat.two_pow_add_eq_or_of_lt (by omega)]; omega
  have e3 : (b0.toNat + b1.toNat * 2 ^ 8 + b2.toNat * 2 ^ 16) ||| b3.toNat * 2 ^ 24 =
      b0.toNat + b1.toNat * 2 ^ 8 + b2.toNat * 2 ^ 16 + b3.toNat * 2 ^ 24 := by
    rw [Nat.lor_comm, Nat.mul_comm, ← Nat.two_pow_add_eq_or_of_lt (by omega)]; omega
  rw [e1, e2, e3]
  omega

/-- `le32` undoes `le32_bytes`, whatever follows the four bytes (R10). -/
theorem le32_le32Bytes (w : Word) (bs : Bytes) : le32 (le32Bytes w ++ bs) 0 = w := by
  apply BitVec.eq_of_toNat_eq
  rw [le32_toNat]
  have := w.isLt
  simp [le32Bytes, byteAt, BitVec.extractLsb'_toNat, Nat.shiftRight_eq_div_pow]
  omega

/-- `le32_bytes` undoes `le32` of four bytes (R10). -/
theorem le32Bytes_le32 (b0 b1 b2 b3 : Byte) (bs : Bytes) :
    le32Bytes (le32 (b0 :: b1 :: b2 :: b3 :: bs) 0) = [b0, b1, b2, b3] := by
  have h := le32_toNat (b0 :: b1 :: b2 :: b3 :: bs) 0
  simp only [byteAt, List.getD_cons_zero, List.getD_cons_succ, Nat.zero_add] at h
  have h0 := b0.isLt
  have h1 := b1.isLt
  have h2 := b2.isLt
  have h3 := b3.isLt
  simp only [le32Bytes, List.cons.injEq, and_true]
  refine ⟨?_, ?_, ?_, ?_⟩ <;> apply BitVec.eq_of_toNat_eq <;>
    simp only [BitVec.extractLsb'_toNat, Nat.shiftRight_eq_div_pow, h] <;> omega

/-! ### Frames -/

@[simp] theorem frameBytes_length (hdr cmd reg : Byte) (payload : Bytes) :
    (frameBytes hdr cmd reg payload).length = payload.length + 5 := by
  simp [frameBytes]

/-- A frame with a payload of at most 255 bytes passes validation and parses to its fields (R102, R113). -/
theorem validate_frameBytes (hdr cmd reg : Byte) (payload : Bytes) (h : payload.length ≤ 255) :
    validate (frameBytes hdr cmd reg payload) = .valid
      { hdr := hdr, cmd := cmd, reg := reg, len := BitVec.ofNat 8 payload.length, payload := payload } := by
  have hs : slice (frameBytes hdr cmd reg payload) 4 (payload.length + 3) = payload := by
    simp [slice, frameBytes]
  have hc : byteAt (frameBytes hdr cmd reg payload) (payload.length + 4) =
      checksum reg (BitVec.ofNat 8 payload.length) payload := by
    simp [byteAt, frameBytes]
  unfold validate
  rw [frameBytes_length, if_neg (by omega), if_neg, if_neg]
  · simp only [show payload.length + 5 - 2 = payload.length + 3 from rfl, hs]
    rfl
  · rw [show payload.length + 5 - 2 = payload.length + 3 from rfl, show payload.length + 5 - 1 = payload.length + 4 from rfl,
      hs, hc]
    simp [byteAt, frameBytes]
  · simp [byteAt, frameBytes, Nat.mod_eq_of_lt (show payload.length < 256 by omega)]

/-- A valid candidate is the frame of its fields: nothing of it is dropped (R102, R71). -/
theorem eq_frameBytes_of_validate {cand : Bytes} {f : Frame} (h : validate cand = .valid f) :
    cand = frameBytes f.hdr f.cmd f.reg f.payload ∧ f.payload.length ≤ 255 ∧
      f.len = BitVec.ofNat 8 f.payload.length := by
  unfold validate at h
  split at h
  · cases h
  split at h
  · cases h
  split at h
  · cases h
  rename_i h5 hl hc
  cases h
  rcases cand with _ | ⟨a, _ | ⟨b, _ | ⟨c, _ | ⟨d, rest⟩⟩⟩⟩ <;> simp at h5
  have hne : rest ≠ [] := by rintro rfl; simp at h5
  obtain ⟨p, x, rfl⟩ : ∃ p x, rest = p ++ [x] := ⟨rest.dropLast, rest.getLast hne, (List.dropLast_append_getLast hne).symm⟩
  have hp : slice (a :: b :: c :: d :: (p ++ [x])) 4 ((a :: b :: c :: d :: (p ++ [x])).length - 2) = p := by
    simp [slice]
  have hx : byteAt (a :: b :: c :: d :: (p ++ [x])) ((a :: b :: c :: d :: (p ++ [x])).length - 1) = x := by
    simp [byteAt]
  have hd : d.toNat = p.length := by simpa [byteAt] using hl
  have hlt := d.isLt
  rw [hp, hx] at hc
  have hdn : d = BitVec.ofNat 8 p.length := by
    apply BitVec.eq_of_toNat_eq
    simp [← hd]
  rw [hp]
  have hx' : x = checksum c d p := by simpa [byteAt] using hc
  have hl' : p.length ≤ 255 := by omega
  exact ⟨by simpa [frameBytes, byteAt, ← hdn] using hx', hl', by simpa [byteAt] using hdn⟩

/-- A candidate of more than 260 bytes is never valid (R102: "always fails with LENGTH"). -/
theorem validate_long {cand : Bytes} (h : 260 < cand.length) : validate cand = .invalid .length := by
  have := (byteAt cand 3).isLt
  unfold validate
  rw [if_neg (by omega), if_pos (by omega)]

/-! ### Reads -/

theorem readF32_short {z : Word} {bs : Bytes} {k : Word} (h : bs.length < k.toNat + 4) :
    readF32 z bs k =
      { val := { w := z, short := true }, warns := [{ code := .decodeShortF32, info := k }] } := by
  simp [readF32, isShort, h]

theorem readF32_full {z : Word} {bs : Bytes} {k : Word} (h : k.toNat + 4 ≤ bs.length) :
    readF32 z bs k = { val := { w := le32 bs k.toNat, short := false }, warns := [] } := by
  simp [readF32, isShort, Nat.not_lt.mpr h]

theorem readU8_short {bs : Bytes} {k : Word} (h : bs.length < k.toNat + 1) :
    readU8 bs k = { val := { b := 0x00, short := true }, warns := [{ code := .decodeShortU8, info := k }] } := by
  simp [readU8, isShort, h]

theorem readU8_full {bs : Bytes} {k : Word} {b : Byte} (h : bs[k.toNat]? = some b) :
    readU8 bs k = { val := { b := b, short := false }, warns := [] } := by
  obtain ⟨hk, hb⟩ := List.getElem?_eq_some_iff.mp h
  simp [readU8, isShort, byteAt, Nat.not_lt.mpr (Nat.succ_le_of_lt hk), List.getD_eq_getElem?_getD, h]

end Sys2Proof.Machine
end

