-- ==== Sys2Proof/Laws/Encoding.lean ====
section
/-! SUPPORT. Well-formedness as propositions, and what the decoder makes of each part of a request. -/

namespace Sys2Proof

open Machine

theorem payloadFits_iff (payload : Bytes) : payloadFits payload = true ↔ payload.length ≤ 255 :=
  ⟨of_decide_eq_true, decide_eq_true⟩

theorem Config.legal_iff (c : Config) : c.legal = true ↔ 260 ≤ c.framerCap ∧ 1 ≤ c.seqQcap := by
  unfold Config.legal
  rw [Bool.and_eq_true]
  exact and_congr ⟨of_decide_eq_true, decide_eq_true⟩ ⟨of_decide_eq_true, decide_eq_true⟩

/-- The four bytes of a 32-bit operand, and that they read back as it (R10). -/
theorem le32Bytes_operand (w : Word) : ∃ b0 b1 b2 b3 : Byte, le32Bytes w = [b0, b1, b2, b3] ∧ le32 [b0, b1, b2, b3] 0 = w :=
  ⟨_, _, _, _, rfl, by
    have h := le32_le32Bytes w []
    rwa [List.append_nil] at h⟩

/-- A frame request that is not host-bound is validated first. -/
theorem decodeFrame_outbound (cmd reg : Byte) (payload : Bytes) (h : payload.length ≤ 255) :
    decodeFrame (frameBytes Config.hdrToDevice cmd reg payload) = decodeOutbound
      { hdr := Config.hdrToDevice, cmd := cmd, reg := reg, len := BitVec.ofNat 8 payload.length, payload := payload } := by
  have hv := validate_frameBytes Config.hdrToDevice cmd reg payload h
  have hd : ∀ tail : Bytes, decodeFrame (Config.hdrToDevice :: tail) =
      match validate (Config.hdrToDevice :: tail) with
      | .invalid r => .error (.badFrame r)
      | .valid f => decodeOutbound f := fun _ => rfl
  obtain ⟨tail, ht⟩ : ∃ tail, frameBytes Config.hdrToDevice cmd reg payload = Config.hdrToDevice :: tail := ⟨_, rfl⟩
  rw [ht, hd, ← ht, hv]

/-- A register request is validated and dispatched on its register byte. -/
theorem decodeRegisterRow_frame (hdr cmd reg : Byte) (payload : Bytes) (h : payload.length ≤ 255) :
    decodeRegisterRow (frameBytes hdr cmd reg payload) = decodeCatalogue
      { hdr := hdr, cmd := cmd, reg := reg, len := BitVec.ofNat 8 payload.length, payload := payload } := by
  rw [decodeRegisterRow, validate_frameBytes _ _ _ _ h]

end Sys2Proof
end

