-- ==== Sys2Proof/Laws/Ops.lean ====
section
/-! SUPPORT. What each shared operation does, once: closed forms, cases and frames. -/

namespace Sys2Proof.Machine

/-! ### Logs of one step -/

@[simp] theorem stampedLogs_nil (step n : Nat) : stampedLogs step n [] = [] := rfl

@[simp] theorem stampedLogs_cons (step n : Nat) (e : LogEvent) (es : List LogEvent) :
    stampedLogs step n (e :: es) = { step := step, seq := n, ev := e } :: stampedLogs step (n + 1) es := by
  simp [stampedLogs, List.mapIdx_cons, Nat.add_assoc, Nat.add_comm 1]

/-- `emitLogs` appends the events in order and numbers them on (R231). -/
theorem State.emitLogs_eq (s : State) (es : List LogEvent) :
    s.emitLogs es =
      { s with log := s.log ++ stampedLogs s.stepNo s.eventNo es, eventNo := s.eventNo + es.length } := by
  induction es generalizing s with
  | nil => simp [State.emitLogs]
  | cons e es ih =>
    have := ih (s.emitLog e)
    simp only [State.emitLogs, List.foldl_cons] at this ⊢
    rw [this]
    simp [State.emitLog, Nat.add_assoc, Nat.add_comm 1]

/-- A pure codec operation changes `log`, its numbering and the answer, and nothing else (R115). -/
theorem State.answerLogged_eq {α : Type} (s : State) (f : α → Value) (r : Logged α) :
    s.answerLogged f r =
      { s with log := s.log ++ stampedLogs s.stepNo s.eventNo r.warns, eventNo := s.eventNo + r.warns.length
               response := .value (f r.val) } := by
  simp [State.answerLogged, State.emitLogs_eq, State.answer]

theorem State.answerEncode_fits (s : State) (cmd : Cmd) (reg : Byte) {payload : Bytes} (h : payload.length ≤ 255) :
    s.answerEncode cmd reg payload = s.answer (.bytes (frameBytes Config.hdrToDevice (cmdByte cmd) reg payload)) := by
  simp [State.answerEncode, encodeFrame, Config.maxPayload, Nat.not_lt.mpr h]

theorem State.answerEncode_long (s : State) (cmd : Cmd) (reg : Byte) {payload : Bytes} (h : 255 < payload.length) :
    s.answerEncode cmd reg payload = s.raiseFault .encodeTooLong := by
  simp [State.answerEncode, encodeFrame, Config.maxPayload, h]

/-! ### The flush -/

theorem flushCompletions_cons (step n : Nat) (e : Entry) (q : List Entry) :
    flushCompletions step n (e :: q) =
      { step := step, seq := n, ev := { ticket := e.ticket, status := .dropped } } :: flushCompletions step (n + 2) q := by
  simp only [flushCompletions, List.mapIdx_cons, Nat.mul_zero, Nat.add_zero, List.cons.injEq, true_and]
  congr 1
  funext j e
  simp only [Stamped.mk.injEq, true_and, and_true]
  omega

theorem flushLogs_cons (step n : Nat) (e : Entry) (q : List Entry) :
    flushLogs step n (e :: q) =
      { step := step, seq := n + 1, ev := { code := .seqDropped, info := e.ticket } } :: flushLogs step (n + 2) q := by
  simp only [flushLogs, List.mapIdx_cons, Nat.mul_zero, Nat.add_zero, List.cons.injEq, true_and]
  congr 1
  funext j e
  simp only [Stamped.mk.injEq, true_and, and_true]
  omega

theorem foldl_dropEntry_eq (q : List Entry) (s : State) :
    q.foldl State.dropEntry s =
      { s with cntDropped := s.cntDropped + BitVec.ofNat 32 q.length
               completion := s.completion ++ flushCompletions s.stepNo s.eventNo q
               log := s.log ++ flushLogs s.stepNo s.eventNo q
               eventNo := s.eventNo + 2 * q.length } := by
  induction q generalizing s with
  | nil => simp [flushCompletions, flushLogs]
  | cons e q ih =>
    rw [List.foldl_cons, ih]
    have hc : s.cntDropped + 1#32 + BitVec.ofNat 32 q.length = s.cntDropped + BitVec.ofNat 32 (q.length + 1) := by
      rw [BitVec.add_assoc, Nat.add_comm, BitVec.ofNat_add]
    have hn : s.eventNo + 1 + 1 + 2 * q.length = s.eventNo + 2 * (q.length + 1) := by omega
    simp [State.dropEntry, State.emitCompletion, State.emitLog, flushCompletions_cons, flushLogs_cons, hc, hn]

/-- `SEQ_FLUSH` in one equation (R184): every entry completes DROPPED and is logged, in queue order. -/
theorem State.flush_eq (s : State) :
    s.flush =
      { s with queue := [], cntDropped := s.cntDropped + BitVec.ofNat 32 s.queue.length
               completion := s.completion ++ flushCompletions s.stepNo s.eventNo s.queue
               log := s.log ++ flushLogs s.stepNo s.eventNo s.queue
               eventNo := s.eventNo + 2 * s.queue.length } := by
  simp [State.flush, foldl_dropEntry_eq]

@[simp] theorem flushCompletions_tickets (step n : Nat) (q : List Entry) :
    (flushCompletions step n q).map (fun c => c.ev.ticket) = q.map (fun e => e.ticket) := by
  induction q generalizing n with
  | nil => rfl
  | cons e q ih => simp [flushCompletions_cons, ih]

theorem flushCompletions_status (step n : Nat) (q : List Entry) :
    ∀ c ∈ flushCompletions step n q, c.ev.status = .dropped := by
  induction q generalizing n with
  | nil => simp [flushCompletions]
  | cons e q ih => simpa [flushCompletions_cons] using ih _

/-! ### The hand-off and the framer's bytes -/

/-- What a hand-off does (R153): it counts the candidate and either emits the frame or logs the reason. -/
theorem State.handoff_cases (s : State) (c : Bytes) :
    (∃ f, validate c = .valid f ∧ s.handoff c =
      { s with cntCandidates := s.cntCandidates + 1, cntFramesValid := s.cntFramesValid + 1
               frameOut := s.frameOut ++ [s.stamp 0 (f.emitted c)], eventNo := s.eventNo + 1 }) ∨
    (∃ r, validate c = .invalid r ∧ s.handoff c =
      { s with cntCandidates := s.cntCandidates + 1, cntFramesInvalid := s.cntFramesInvalid + 1
               log := s.log ++ [s.stamp 0 { code := r.logCode, info := lengthInfo c.length }]
               eventNo := s.eventNo + 1 }) := by
  unfold State.handoff
  split
  · exact .inl ⟨_, by assumption, rfl⟩
  · exact .inr ⟨_, by assumption, rfl⟩

/-- What one received byte does (R151, R152). -/
theorem State.framerByte_cases (s : State) (b : Byte) :
    (b = Config.sentinel ∧ s.fmode = .idle ∧
      s.framerByte b = { s with pending := [Config.sentinel], fmode := .collect }) ∨
    (b = Config.sentinel ∧ s.fmode = .collect ∧
      s.framerByte b = { s.handoff s.pending with pending := [Config.sentinel], fmode := .collect }) ∨
    (b ≠ Config.sentinel ∧ s.fmode = .idle ∧ s.framerByte b = s) ∨
    (b ≠ Config.sentinel ∧ s.fmode = .collect ∧ s.pending.length < s.cfg.framerCap ∧
      s.framerByte b = { s with pending := s.pending ++ [b] }) ∨
    (b ≠ Config.sentinel ∧ s.fmode = .collect ∧ ¬ s.pending.length < s.cfg.framerCap ∧
      s.framerByte b =
        { s with log := s.log ++ [s.stamp 0 { code := .framerOverflow, info := lengthInfo (s.pending.length + 1) }]
                 eventNo := s.eventNo + 1, cntFramerOverflow := s.cntFramerOverflow + 1
                 pending := [], fmode := .idle }) := by
  unfold State.framerByte
  by_cases hb : b = Config.sentinel
  · rw [if_pos hb]
    unfold State.framerSentinel
    cases hm : s.fmode <;> simp [hb]
  · rw [if_neg hb]
    unfold State.framerData
    cases hm : s.fmode
    · simp [hb]
    · by_cases hl : s.pending.length < s.cfg.framerCap <;> simp [hb, hl, State.framerOverflow]

/-- What the framer touches, and that its two streams only grow. -/
structure FramerFrame (s t : State) : Prop where
  same : t = { s with
    fmode := t.fmode, pending := t.pending, cntCandidates := t.cntCandidates, cntFramesValid := t.cntFramesValid
    cntFramesInvalid := t.cntFramesInvalid, cntFramerOverflow := t.cntFramerOverflow, frameOut := t.frameOut
    log := t.log, eventNo := t.eventNo }
  frames : s.frameOut <+: t.frameOut
  logs : s.log <+: t.log

theorem FramerFrame.refl (s : State) : FramerFrame s s := ⟨rfl, List.prefix_rfl, List.prefix_rfl⟩

theorem FramerFrame.trans {s t u : State} (h : FramerFrame s t) (k : FramerFrame t u) : FramerFrame s u := by
  refine ⟨?_, h.frames.trans k.frames, h.logs.trans k.logs⟩
  have h1 := h.same
  have k1 := k.same
  rw [h1] at k1
  exact k1

theorem State.handoff_frame (s : State) (c : Bytes) : FramerFrame s (s.handoff c) := by
  obtain ⟨f, -, h⟩ | ⟨r, -, h⟩ := s.handoff_cases c <;> rw [h] <;> exact ⟨rfl, by simp, by simp⟩

theorem State.framerByte_frame (s : State) (b : Byte) : FramerFrame s (s.framerByte b) := by
  obtain ⟨-, -, h⟩ | ⟨-, -, h⟩ | ⟨-, -, h⟩ | ⟨-, -, -, h⟩ | ⟨-, -, -, h⟩ := s.framerByte_cases b <;> rw [h]
  · exact ⟨rfl, by simp, by simp⟩
  · exact (s.handoff_frame s.pending).trans ⟨rfl, by simp, by simp⟩
  · exact FramerFrame.refl s
  · exact ⟨rfl, by simp, by simp⟩
  · exact ⟨rfl, by simp, by simp⟩

theorem foldl_framerByte_frame (x : Bytes) (s : State) : FramerFrame s (x.foldl State.framerByte s) := by
  induction x generalizing s with
  | nil => exact FramerFrame.refl s
  | cons b x ih => exact (s.framerByte_frame b).trans (ih _)

/-- One byte reads nothing of the sequencer or the link (R154). -/
theorem State.framerByte_sequencer (s : State) (b : Byte) (up : Bool) (q : List Entry) (d n : Word) :
    State.framerByte { s with linkUp := up, queue := q, delay := d, nextTicket := n } b =
      { s.framerByte b with linkUp := up, queue := q, delay := d, nextTicket := n } := by
  obtain ⟨cfg, fmode, pending⟩ := s
  by_cases hb : b = Config.sentinel
  · simp only [State.framerByte, if_pos hb, State.framerSentinel, State.handoff]
    cases fmode
    · rfl
    · cases validate pending <;> rfl
  · simp only [State.framerByte, if_neg hb, State.framerData]
    cases fmode
    · rfl
    · by_cases hl : pending.length < cfg.framerCap
      · simp only [if_pos hl]
      · simp only [if_neg hl]
        rfl

theorem foldl_framerByte_sequencer (x : Bytes) (s : State) (up : Bool) (q : List Entry) (d n : Word) :
    x.foldl State.framerByte { s with linkUp := up, queue := q, delay := d, nextTicket := n } =
      { x.foldl State.framerByte s with linkUp := up, queue := q, delay := d, nextTicket := n } := by
  induction x generalizing s with
  | nil => rfl
  | cons b x ih => rw [List.foldl_cons, State.framerByte_sequencer, ih, List.foldl_cons]

/-- The framer does not read what the last step answered. -/
theorem State.framerByte_response (s : State) (b : Byte) (r : Response) :
    State.framerByte { s with response := r } b = { s.framerByte b with response := r } := by
  obtain ⟨cfg, fmode, pending⟩ := s
  by_cases hb : b = Config.sentinel
  · simp only [State.framerByte, if_pos hb, State.framerSentinel, State.handoff]
    cases fmode
    · rfl
    · cases validate pending <;> rfl
  · simp only [State.framerByte, if_neg hb, State.framerData]
    cases fmode
    · rfl
    · by_cases hl : pending.length < cfg.framerCap
      · simp only [if_pos hl]
      · simp only [if_neg hl]
        rfl

theorem foldl_framerByte_response (x : Bytes) (s : State) (r : Response) :
    x.foldl State.framerByte { s with response := r } = { x.foldl State.framerByte s with response := r } := by
  induction x generalizing s with
  | nil => rfl
  | cons b x ih => rw [List.foldl_cons, State.framerByte_response, ih, List.foldl_cons]

/-! ### The sequencer -/

/-- What a transmit leaves (R183, R184), for each outcome. -/
theorem State.transmit_ok (s : State) (e : Entry) :
    s.transmit e .ok =
      { s with delay := BitVec.ofNat 32 s.cfg.delayTicks, cntTxOk := s.cntTxOk + 1
               linkTx := s.linkTx ++ [s.stamp 0 { bytes := e.cmd, outcome := .ok }]
               completion := s.completion ++ [s.stamp 1 { ticket := e.ticket, status := .ok }]
               eventNo := s.eventNo + 2 } := rfl

theorem State.transmit_fail (s : State) (e : Entry) :
    s.transmit e .fail =
      { s with queue := [], delay := BitVec.ofNat 32 s.cfg.delayTicks, cntTxFail := s.cntTxFail + 1
               cntDropped := s.cntDropped + BitVec.ofNat 32 s.queue.length
               linkTx := s.linkTx ++ [s.stamp 0 { bytes := e.cmd, outcome := .fail }]
               completion := s.completion ++ s.stamp 1 { ticket := e.ticket, status := .txFailed } ::
                 flushCompletions s.stepNo (s.eventNo + 3) s.queue
               log := s.log ++ s.stamp 2 { code := .seqTxFailed, info := e.ticket } ::
                 flushLogs s.stepNo (s.eventNo + 3) s.queue
               eventNo := s.eventNo + 3 + 2 * s.queue.length } := by
  simp [State.transmit, State.flush_eq, State.emitTx, State.emitCompletion, State.emitLog, State.stamp]

/-- A 32-bit delay that is not over still runs (R182). -/
theorem delay_pos {d : Word} (h : d ≠ 0) : 0 < d := by
  rw [BitVec.lt_def]
  exact Nat.pos_of_ne_zero fun e => h (BitVec.eq_of_toNat_eq e)

/-- What the worker's turn does: the queue is empty or the delay runs and nothing happens, or the head is transmitted with an
outcome that is FAIL while the link is down and the free answer while it is up. -/
theorem execSeqIssue_cases (s : State) :
    ((s.queue = [] ∨ 0 < s.delay) ∧ execSeqIssue s = .next s.passTurn) ∨
    (∃ e rest o, s.queue = e :: rest ∧ s.delay = 0 ∧ (s.linkUp = false → o = .fail) ∧
      (s.linkUp = true → o = Config.linkAnswer s.draws) ∧
      execSeqIssue s = .next (State.transmit
        { s with queue := rest, draws := (if s.linkUp then s.draws + 1 else s.draws) } e o).done) := by
  unfold execSeqIssue
  cases hq : s.queue with
  | nil => exact .inl ⟨.inl rfl, rfl⟩
  | cons e rest =>
    by_cases hd : s.delay = 0
    · refine .inr ⟨e, rest, (if s.linkUp then Config.linkAnswer s.draws else .fail), rfl, hd, ?_, ?_, ?_⟩
      · intro h; simp [h]
      · intro h; simp [h]
      · simp only [if_pos hd, State.issue, State.drawOutcome]
        cases hl : s.linkUp <;> simp
    · exact .inl ⟨.inr (delay_pos hd), by simp only [if_neg hd]⟩

/-- What an enqueue does (R180). -/
theorem execSeqEnqueue_cases (cmd : Bytes) (s : State) :
    ((cmd.length < 1 ∨ cmd.length > 260) ∧ execSeqEnqueue cmd s =
      .next (s.reject { code := .seqBadCmdLength, info := lengthInfo cmd.length })) ∨
    (1 ≤ cmd.length ∧ cmd.length ≤ 260 ∧ s.queue.length = s.cfg.seqQcap ∧ execSeqEnqueue cmd s =
      .next (s.reject { code := .seqQueueFull, info := s.nextTicket })) ∨
    (1 ≤ cmd.length ∧ cmd.length ≤ 260 ∧ s.queue.length ≠ s.cfg.seqQcap ∧ execSeqEnqueue cmd s = .next (s.accept cmd)) := by
  unfold execSeqEnqueue
  by_cases h : cmd.length < 1 ∨ cmd.length > Config.seqMaxCmd
  · exact .inl ⟨h, by rw [if_pos h]⟩
  · rw [if_neg h]
    simp only [Config.seqMaxCmd, not_or, Nat.not_lt, gt_iff_lt] at h
    by_cases hq : s.queue.length = s.cfg.seqQcap
    · exact .inr (.inl ⟨h.1, h.2, hq, by rw [if_pos hq]⟩)
    · exact .inr (.inr ⟨h.1, h.2, hq, by rw [if_neg hq]⟩)

theorem State.reject_eq (s : State) (log : LogEvent) :
    s.reject log =
      { s with nextTicket := s.nextTicket + 1, cntRejected := s.cntRejected + 1
               completion := s.completion ++ [s.stamp 0 { ticket := s.nextTicket, status := .rejected }]
               log := s.log ++ [s.stamp 1 log], eventNo := s.eventNo + 2
               response := .value (.ticket s.nextTicket) } := rfl

end Sys2Proof.Machine
end

