-- ==== Sys2Proof/Laws/Step.lean ====
section
/-! SUPPORT. What an instruction can do, once: the inversion lemma that proofs over all instructions cite. -/

namespace Sys2Proof.Machine

/-- `CODEC_ENCODE` answers, and touches nothing else (R101, R223). -/
theorem State.answerEncode_cases (s : State) (cmd : Cmd) (reg : Byte) (payload : Bytes) :
    ∃ a : Response, s.answerEncode cmd reg payload = { s with response := a } := by
  unfold State.answerEncode
  cases encodeFrame cmd reg payload <;> exact ⟨_, rfl⟩

/-- A codec instruction appends some logs and answers (R115). -/
theorem exec_codec {i : Instr} (hi : isCodec i = true) (s : State) :
    ∃ (ws : List LogEvent) (a : Response), exec i s = .next { s.emitLogs ws with response := a } := by
  have hE : ∀ cmd reg payload, ∃ (ws : List LogEvent) (a : Response),
      Host.Outcome.next (φ := Fault) (ρ := Refusal) (s.answerEncode cmd reg payload) =
        .next { s.emitLogs ws with response := a } := by
    intro cmd reg payload
    obtain ⟨a, h⟩ := s.answerEncode_cases cmd reg payload
    exact ⟨[], a, by rw [h]; rfl⟩
  cases i <;> first
    | (cases hi; done)
    | exact ⟨[], _, rfl⟩
    | exact hE _ _ _
    | exact ⟨_, _, rfl⟩

/-- What `exec` can do: one case per kind of instruction. -/
theorem exec_cases {i : Instr} {s t : State} (h : exec i s = .next t) :
    (isCodec i = true ∧ ∃ ws a, t = { s.emitLogs ws with response := a }) ∨
    (∃ chunk, i = .framerPush chunk ∧ t = (chunk.foldl State.framerByte s).done) ∨
    (∃ tail, i = .frameInbound tail ∧ t = ((Config.hdrToHost :: tail).foldl State.framerByte s).done) ∨
    (i = .framerReset ∧ t = s.framerClear.done) ∨
    (∃ cmd, i = .seqEnqueue cmd ∧ 1 ≤ cmd.length ∧ cmd.length ≤ 260 ∧ s.queue.length ≠ s.cfg.seqQcap ∧
      t = s.accept cmd) ∨
    (∃ cmd log, i = .seqEnqueue cmd ∧ t = s.reject log) ∨
    (i = .seqIssue ∧ (s.queue = [] ∨ 0 < s.delay) ∧ t = s.passTurn) ∨
    (i = .seqIssue ∧ ∃ e rest o, s.queue = e :: rest ∧ s.delay = 0 ∧ (s.linkUp = false → o = .fail) ∧
      (s.linkUp = true → o = Config.linkAnswer s.draws) ∧
      t = (State.transmit { s with queue := rest, draws := (if s.linkUp then s.draws + 1 else s.draws) } e o).done) ∨
    (i = .seqTick ∧ t = State.done { s with delay := if 0 < s.delay then s.delay - 1 else s.delay }) ∨
    (i = .linkOpen ∧ t = State.done { s with linkUp := true }) ∨
    (i = .linkClose ∧ t = (State.flush { s with linkUp := false }).framerClear.done) ∨
    (∃ idx, i = .statusRead idx ∧ t = s.answer (.status (s.statusReg idx))) ∨
    (i = .blockReset ∧ t = s.flush.framerClear.zeroRegisters.done) := by
  by_cases hi : isCodec i = true
  · obtain ⟨ws, a, he⟩ := exec_codec hi s
    rw [he] at h
    cases h
    exact .inl ⟨hi, ws, a, rfl⟩
  · right
    cases i <;> first
      | exact absurd rfl hi
      | skip
    case framerPush chunk => cases h; exact .inl ⟨chunk, rfl, rfl⟩
    case frameInbound tail => cases h; exact .inr (.inl ⟨tail, rfl, rfl⟩)
    case framerReset => cases h; exact .inr (.inr (.inl ⟨rfl, rfl⟩))
    case seqEnqueue cmd =>
      change execSeqEnqueue cmd s = _ at h
      obtain ⟨-, e⟩ | ⟨-, -, -, e⟩ | ⟨h1, h2, h3, e⟩ := execSeqEnqueue_cases cmd s <;> rw [e] at h <;> cases h
      · exact .inr (.inr (.inr (.inr (.inl ⟨cmd, _, rfl, rfl⟩))))
      · exact .inr (.inr (.inr (.inr (.inl ⟨cmd, _, rfl, rfl⟩))))
      · exact .inr (.inr (.inr (.inl ⟨cmd, rfl, h1, h2, h3, rfl⟩)))
    case seqIssue =>
      change execSeqIssue s = _ at h
      obtain ⟨hd, e⟩ | ⟨x, rest, o, h1, h2, h3, h4, e⟩ := execSeqIssue_cases s <;> rw [e] at h <;> cases h
      · exact .inr (.inr (.inr (.inr (.inr (.inl ⟨rfl, hd, rfl⟩)))))
      · exact .inr (.inr (.inr (.inr (.inr (.inr (.inl ⟨rfl, x, rest, o, h1, h2, h3, h4, rfl⟩))))))
    case seqTick =>
      refine .inr (.inr (.inr (.inr (.inr (.inr (.inr (.inl ⟨rfl, ?_⟩)))))))
      by_cases hd : s.delay > 0
      · rw [exec, execSeqTick, if_pos hd] at h
        cases h
        rw [if_pos hd]
      · simp only [exec, execSeqTick, if_neg hd] at h
        cases h
        rw [if_neg hd]
    case linkOpen => cases h; exact .inr (.inr (.inr (.inr (.inr (.inr (.inr (.inr (.inl ⟨rfl, rfl⟩))))))))
    case linkClose => cases h; exact .inr (.inr (.inr (.inr (.inr (.inr (.inr (.inr (.inr (.inl ⟨rfl, rfl⟩)))))))))
    case statusRead idx =>
      cases h
      exact .inr (.inr (.inr (.inr (.inr (.inr (.inr (.inr (.inr (.inr (.inl ⟨idx, rfl, rfl⟩))))))))))
    case blockReset =>
      cases h
      exact .inr (.inr (.inr (.inr (.inr (.inr (.inr (.inr (.inr (.inr (.inr ⟨rfl, rfl⟩))))))))))

/-- A request that decodes to no instruction changes the answer alone (R78, R82, R102, R223). -/
theorem State.rejectRequest_cases (s : State) (e : DecodeError) : ∃ a : Response, s.rejectRequest e = { s with response := a } := by
  cases e <;> exact ⟨_, rfl⟩

/-- What a step that answers can do: wait, run an instruction, or refuse a request that decodes to none. -/
theorem step_cases {s t : State} (h : step s = .next t) :
    s.cfg.legal = true ∧
    ((s.requests = [] ∧ t = s) ∨
     (∃ r rest i, s.requests = r :: rest ∧ decode r = .ok i ∧ exec i (s.takeRequest rest) = .next t) ∨
     (∃ rest a, t = { s.takeRequest rest with response := a })) := by
  unfold step at h
  split at h
  · rename_i hl
    refine ⟨hl, ?_⟩
    split at h
    · rename_i hr
      cases h
      exact .inl ⟨hr, rfl⟩
    · rename_i r rest hr
      unfold serve at h
      split at h
      · rename_i i hi
        exact .inr (.inl ⟨r, rest, i, hr, hi, h⟩)
      · rename_i e he
        right
        right
        obtain ⟨a, ha⟩ := (s.takeRequest rest).rejectRequest_cases e
        rw [ha] at h
        cases h
        exact ⟨rest, a, rfl⟩
  · cases h

end Sys2Proof.Machine
end

