-- ==== Sys2Proof/Laws/Invariant.lean ====
section
/-! SUPPORT. Per shared operation: which clauses of the invariant it keeps. Step proofs cite these, unfolding nothing. -/

namespace Sys2Proof.Machine

/-! ### Numbering -/

/-- An event is numbered below the next number (R231). -/
theorem State.StampInv.lt {s : State} (h : s.StampInv) {n : Nat} (hn : n ∈ s.eventNumbers) : n < s.eventNo :=
  List.mem_range.mp (h.1.mem_iff.mp hn)

theorem perm_insert_last {a b l : List Nat} {n : Nat} (h : (a ++ b).Perm (List.range n)) (hl : l.Perm (a ++ [n] ++ b)) :
    l.Perm (List.range (n + 1)) := by
  rw [List.range_succ]
  refine hl.trans ?_
  refine (List.Perm.trans ?_ (h.append_right [n]))
  rw [List.append_assoc, List.append_assoc]
  exact List.Perm.append_left a List.perm_append_comm

theorem pairwise_snoc {l : List Nat} {n : Nat} (h : l.Pairwise (· < ·)) (hl : ∀ m ∈ l, m < n) :
    (l ++ [n]).Pairwise (· < ·) := by
  rw [List.pairwise_append]
  refine ⟨h, by simp, ?_⟩
  simpa using hl

theorem State.StampInv.emitFrame {s : State} (h : s.StampInv) (f : FrameOut) : (s.emitFrame f).StampInv := by
  have hlt := @State.StampInv.lt s h
  obtain ⟨hp, h1, h2, h3, h4, h5⟩ := h
  simp only [State.eventNumbers, State.eventSteps, List.mem_append] at hlt hp h5
  refine ⟨?_, ?_, h2, h3, h4, ?_⟩
  · refine perm_insert_last (a := s.frameOut.map (·.seq)) (b := s.log.map (·.seq) ++ s.linkTx.map (·.seq) ++ s.completion.map (·.seq))
      (by simpa [List.append_assoc] using hp) ?_
    simp [State.emitFrame, State.eventNumbers]
  · simpa [State.emitFrame] using pairwise_snoc h1 fun m hm => hlt (by simp [hm])
  · simp only [State.emitFrame, State.eventSteps, List.map_append, List.mem_append, List.map_cons, List.map_nil, List.mem_singleton]
    rintro n (((( hn | rfl) | hn) | hn) | hn) <;> first | exact Nat.le_refl _ | exact h5 n (by simp [hn])

theorem State.StampInv.emitLog {s : State} (h : s.StampInv) (e : LogEvent) : (s.emitLog e).StampInv := by
  have hlt := @State.StampInv.lt s h
  obtain ⟨hp, h1, h2, h3, h4, h5⟩ := h
  simp only [State.eventNumbers, State.eventSteps, List.mem_append] at hlt hp h5
  refine ⟨?_, h1, ?_, h3, h4, ?_⟩
  · refine perm_insert_last (a := s.frameOut.map (·.seq) ++ s.log.map (·.seq)) (b := s.linkTx.map (·.seq) ++ s.completion.map (·.seq))
      (by simpa [List.append_assoc] using hp) ?_
    simp [State.emitLog, State.eventNumbers]
  · simpa [State.emitLog] using pairwise_snoc h2 fun m hm => hlt (by simp [hm])
  · simp only [State.emitLog, State.eventSteps, List.map_append, List.mem_append, List.map_cons, List.map_nil, List.mem_singleton]
    rintro n ((( hn | (hn | rfl)) | hn) | hn) <;> first | exact Nat.le_refl _ | exact h5 n (by simp [hn])

theorem State.StampInv.emitTx {s : State} (h : s.StampInv) (e : LinkTx) : (s.emitTx e).StampInv := by
  have hlt := @State.StampInv.lt s h
  obtain ⟨hp, h1, h2, h3, h4, h5⟩ := h
  simp only [State.eventNumbers, State.eventSteps, List.mem_append] at hlt hp h5
  refine ⟨?_, h1, h2, ?_, h4, ?_⟩
  · refine perm_insert_last (a := s.frameOut.map (·.seq) ++ s.log.map (·.seq) ++ s.linkTx.map (·.seq)) (b := s.completion.map (·.seq))
      (by simpa [List.append_assoc] using hp) ?_
    simp [State.emitTx, State.eventNumbers]
  · simpa [State.emitTx] using pairwise_snoc h3 fun m hm => hlt (by simp [hm])
  · simp only [State.emitTx, State.eventSteps, List.map_append, List.mem_append, List.map_cons, List.map_nil, List.mem_singleton]
    rintro n ((( hn | hn) | (hn | rfl)) | hn) <;> first | exact Nat.le_refl _ | exact h5 n (by simp [hn])

theorem State.StampInv.emitCompletion {s : State} (h : s.StampInv) (e : Completion) : (s.emitCompletion e).StampInv := by
  have hlt := @State.StampInv.lt s h
  obtain ⟨hp, h1, h2, h3, h4, h5⟩ := h
  simp only [State.eventNumbers, State.eventSteps, List.mem_append] at hlt hp h5
  refine ⟨?_, h1, h2, h3, ?_, ?_⟩
  · refine perm_insert_last (a := s.frameOut.map (·.seq) ++ s.log.map (·.seq) ++ s.linkTx.map (·.seq) ++ s.completion.map (·.seq)) (b := [])
      (by simpa [List.append_assoc] using hp) ?_
    simp [State.emitCompletion, State.eventNumbers]
  · simpa [State.emitCompletion] using pairwise_snoc h4 fun m hm => hlt (by simp [hm])
  · simp only [State.emitCompletion, State.eventSteps, List.map_append, List.mem_append, List.map_cons, List.map_nil, List.mem_singleton]
    rintro n ((( hn | hn) | hn) | (hn | rfl)) <;> first | exact Nat.le_refl _ | exact h5 n (by simp [hn])

theorem State.StampInv.emitLogs {s : State} (h : s.StampInv) (es : List LogEvent) : (s.emitLogs es).StampInv := by
  induction es generalizing s with
  | nil => exact h
  | cons e es ih => exact ih (h.emitLog e)

/-! ### The framer -/

/-- The clauses of the invariant that the framer's steps must re-establish. -/
structure State.FramerPart (s : State) : Prop where
  framer : s.FramerInv
  count : s.CountInv
  output : s.OutputInv
  stamp : s.StampInv

/-- A candidate that starts with the sentinel and holds no other (R24). -/
abbrev isCandidate (c : Bytes) : Prop := c.head? = some Config.sentinel ∧ ∀ b ∈ c.tail, b ≠ Config.sentinel

theorem State.handoff_keeps {s : State} {c : Bytes} (hc : isCandidate c) (h1 : s.CountInv) (h2 : s.OutputInv)
    (h3 : s.StampInv) : (s.handoff c).CountInv ∧ (s.handoff c).OutputInv ∧ (s.handoff c).StampInv := by
  unfold State.CountInv at h1
  unfold State.handoff
  split
  · rename_i f hv
    refine ⟨?_, ?_, State.StampInv.emitFrame (s := { s with cntCandidates := _, cntFramesValid := _ }) h3 _⟩
    · simp only [State.CountInv, State.emitFrame, h1]
      ac_rfl
    · simp only [State.OutputInv, State.emitFrame, List.mem_append, List.mem_singleton]
      rintro e (he | rfl)
      · exact h2 e he
      · exact ⟨hv, hc⟩
  · rename_i r hv
    refine ⟨?_, h2, State.StampInv.emitLog (s := { s with cntCandidates := _, cntFramesInvalid := _ }) h3 _⟩
    simp only [State.CountInv, State.emitLog, h1]
    ac_rfl

theorem State.framerByte_keeps {s : State} (hcap : 1 ≤ s.cfg.framerCap) (h : s.FramerPart) (b : Byte) :
    (s.framerByte b).FramerPart := by
  obtain ⟨⟨hf1, hf2⟩, h1, h2, h3⟩ := h
  have hopen : ∀ t : State, t.CountInv ∧ t.OutputInv ∧ t.StampInv → t.cfg = s.cfg →
      State.FramerPart { t with pending := [Config.sentinel], fmode := .collect } := by
    rintro t ⟨k1, k2, k3⟩ hc
    exact ⟨⟨by simp, fun _ => ⟨rfl, by simp, by simp, by simpa [hc] using hcap⟩⟩, k1, k2, k3⟩
  obtain ⟨-, -, h⟩ | ⟨-, hm, h⟩ | ⟨-, -, h⟩ | ⟨hb, hm, hl, h⟩ | ⟨-, -, -, h⟩ := s.framerByte_cases b <;> rw [h]
  · exact hopen s ⟨h1, h2, h3⟩ rfl
  · have hp := hf2 hm
    refine hopen _ (s.handoff_keeps ⟨hp.1, hp.2.1⟩ h1 h2 h3) ?_
    rw [(s.handoff_frame s.pending).same]
  · exact ⟨⟨hf1, hf2⟩, h1, h2, h3⟩
  · obtain ⟨p1, p2, p3, p4⟩ := hf2 hm
    obtain ⟨x, xs, hx⟩ := List.exists_cons_of_length_pos p3
    rw [hx] at p1 p2
    refine ⟨⟨by simp [hm], fun _ => ?_⟩, h1, h2, h3⟩
    simp only [hx, List.cons_append, List.head?_cons, List.tail_cons, List.length_cons, List.length_append,
      List.mem_append, List.mem_singleton, List.length_nil] at p1 p2 hl ⊢
    refine ⟨p1, ?_, by omega, by omega⟩
    rintro y (hy | rfl)
    · exact p2 y hy
    · exact hb
  · exact ⟨⟨by simp, by simp⟩, h1, h2, h3.emitLog _⟩

theorem foldl_framerByte_keeps {s : State} (hcap : 1 ≤ s.cfg.framerCap) (h : s.FramerPart) (x : Bytes) :
    (x.foldl State.framerByte s).FramerPart := by
  induction x generalizing s with
  | nil => exact h
  | cons b x ih => exact ih (by rw [(s.framerByte_frame b).same]; exact hcap) (s.framerByte_keeps hcap h b)

/-! ### The flush -/

theorem foldl_dropEntry_stamp {s : State} (h : s.StampInv) (q : List Entry) : (q.foldl State.dropEntry s).StampInv := by
  induction q generalizing s with
  | nil => exact h
  | cons e q ih =>
    exact ih ((State.StampInv.emitCompletion (s := { s with cntDropped := s.cntDropped + 1 }) h _).emitLog _)

theorem State.StampInv.flush {s : State} (h : s.StampInv) : s.flush.StampInv := foldl_dropEntry_stamp h s.queue

/-- The flush empties the queue and keeps every other clause (R184). -/
theorem State.Inv.flush {s : State} (h : s.Inv) : s.flush.Inv := by
  obtain ⟨h1, -, h3, h4, h5, h6⟩ := h
  refine ⟨?_, ?_, ?_, ?_, ?_, h6.flush⟩ <;> rw [s.flush_eq]
  · exact h1
  · exact ⟨Nat.zero_le _, by simp⟩
  · exact h3
  · exact h4
  · exact h5

theorem State.Inv.framerClear {s : State} (h : s.Inv) : s.framerClear.Inv := by
  obtain ⟨-, h2, h3, h4, h5, h6⟩ := h
  exact ⟨⟨by simp [State.framerClear], by simp [State.framerClear]⟩, h2, h3, h4, h5, h6⟩

/-- The 32-bit load of the delay stays within `DELAY_TICKS` (R26, R232). -/
theorem delay_load_le (n : Nat) : (BitVec.ofNat 32 n).toNat ≤ n := by
  rw [BitVec.toNat_ofNat]
  exact Nat.mod_le _ _

/-- A tick lowers the delay by one, or leaves it at 0 (R185). -/
theorem delay_tick_toNat (d : Word) : (if 0 < d then d - 1 else d).toNat = d.toNat - 1 := by
  by_cases h : 0 < d
  · rw [if_pos h]
    rw [BitVec.lt_def] at h
    bv_omega
  · rw [if_neg h]
    rw [BitVec.lt_def] at h
    bv_omega

/-- A transmit keeps the invariant, whichever outcome is drawn (R183). -/
theorem State.Inv.transmit {s : State} (h : s.Inv) (e : Entry) (o : TxOutcome) : (s.transmit e o).Inv := by
  obtain ⟨h1, h2, h3, h4, h5, h6⟩ := h
  have k := h6.emitTx { bytes := e.cmd, outcome := o }
  cases o with
  | ok => exact ⟨h1, h2, delay_load_le _, h4, h5, State.StampInv.emitCompletion (s := { s.emitTx _ with delay := _, cntTxOk := _ }) k _⟩
  | fail =>
    exact State.Inv.flush
      ⟨h1, h2, delay_load_le _, h4, h5,
        (State.StampInv.emitCompletion (s := { s.emitTx _ with delay := _, cntTxFail := _ }) k _).emitLog _⟩

end Sys2Proof.Machine
end

