-- ==== Sys2Proof/Laws/PerInstr.lean ====
section
/-! SUPPORT. Per instruction: the request it encodes to is the one its row of spec/opcode_table.json matches. -/

namespace Sys2Proof.Laws

open Machine

theorem byte_testBit (b : Byte) {i : Nat} (h : 8 ≤ i) : b.toNat.testBit i = false := by
  rw [BitVec.testBit_toNat]
  exact BitVec.getLsbD_of_ge b i h

/-- The head word of four bytes (R81). -/
theorem head_and_command (a b c d : Byte) :
    (a.toNat <<< 24 ||| b.toNat <<< 16 ||| c.toNat <<< 8 ||| d.toNat) &&& 0xFFFF0000 = a.toNat <<< 24 ||| b.toNat <<< 16 := by
  rw [show 0xFFFF0000 = (2 ^ 16 - 1) <<< 16 from rfl]
  apply Nat.eq_of_testBit_eq
  intro i
  simp only [Nat.testBit_and, Nat.testBit_or, Nat.testBit_shiftLeft, Nat.testBit_two_pow_sub_one]
  by_cases h1 : i < 16
  · simp [show ¬ i ≥ 16 by omega, show ¬ i ≥ 24 by omega]
  · by_cases h2 : i < 32
    · simp [show i ≥ 16 by omega, show i - 16 < 16 by omega, byte_testBit c (show 8 ≤ i - 8 by omega), byte_testBit d (show 8 ≤ i by omega)]
    · simp [byte_testBit a (show 8 ≤ i - 24 by omega), byte_testBit b (show 8 ≤ i - 16 by omega), byte_testBit c (show 8 ≤ i - 8 by omega), byte_testBit d (show 8 ≤ i by omega)]

theorem head_and_header (a b c d : Byte) :
    (a.toNat <<< 24 ||| b.toNat <<< 16 ||| c.toNat <<< 8 ||| d.toNat) &&& 0xFF000000 = a.toNat <<< 24 := by
  rw [show 0xFF000000 = (2 ^ 8 - 1) <<< 24 from rfl]
  apply Nat.eq_of_testBit_eq
  intro i
  simp only [Nat.testBit_and, Nat.testBit_or, Nat.testBit_shiftLeft, Nat.testBit_two_pow_sub_one]
  by_cases h1 : i < 24
  · simp [show ¬ i ≥ 24 by omega]
  · by_cases h2 : i < 32
    · simp [show i ≥ 24 by omega, show i - 24 < 8 by omega, byte_testBit b (show 8 ≤ i - 16 by omega), byte_testBit c (show 8 ≤ i - 8 by omega), byte_testBit d (show 8 ≤ i by omega)]
    · simp [byte_testBit a (show 8 ≤ i - 24 by omega), byte_testBit b (show 8 ≤ i - 16 by omega), byte_testBit c (show 8 ≤ i - 8 by omega), byte_testBit d (show 8 ≤ i by omega)]

theorem head_and_register (a b c d : Byte) :
    (a.toNat <<< 24 ||| b.toNat <<< 16 ||| c.toNat <<< 8 ||| d.toNat) &&& 0x0000FF00 = c.toNat <<< 8 := by
  rw [show 0x0000FF00 = (2 ^ 8 - 1) <<< 8 from rfl]
  apply Nat.eq_of_testBit_eq
  intro i
  simp only [Nat.testBit_and, Nat.testBit_or, Nat.testBit_shiftLeft, Nat.testBit_two_pow_sub_one]
  by_cases h1 : i < 8
  · simp [show ¬ i ≥ 8 by omega]
  · by_cases h2 : i < 16
    · simp [show i ≥ 8 by omega, show i - 8 < 8 by omega, show ¬ i ≥ 16 by omega, show ¬ i ≥ 24 by omega, byte_testBit d (show 8 ≤ i by omega)]
    · simp [byte_testBit c (show 8 ≤ i - 8 by omega), show ¬ i - 8 < 8 by omega]

/-- The request an instruction encodes to is matched by the instruction's own row (30_encoding.md R81, R82). -/
def RowMatch.Statement (i : Instr) : Prop := i.row.matchesRequest (encode i) = true

theorem rowMatch_operation (id : Byte) (operands : Bytes) {row : Row} (hf : row.fmt = .op) (hm : row.mask = 0xFF)
    (hv : row.value = id.toNat) : row.matchesRequest (opRequest id operands) = true := by
  simp only [Row.matchesRequest, opRequest, Request.lookupWord, hf, hm, hv, byteAt_cons_zero]
  rw [show 0xFF = 2 ^ 8 - 1 from rfl, Nat.and_two_pow_sub_one_eq_mod, Nat.mod_eq_of_lt id.isLt]
  simp

theorem rowMatch_outbound (cmd : Cmd) (reg : Byte) (payload : Bytes) {row : Row} (hf : row.fmt = .frame)
    (hm : row.mask = 0xFFFF0000) (hv : row.value = 0xF1 <<< 24 ||| (cmdByte cmd).toNat <<< 16) :
    row.matchesRequest (outboundRequest cmd reg payload) = true := by
  simp only [Row.matchesRequest, outboundRequest, Request.lookupWord, frameBytes, hf, hm, hv, List.cons_append,
    byteAt_cons_zero, byteAt_cons_succ, head_and_command]
  simp [Config.hdrToDevice]

theorem rowMatch_catalogue (hdr cmd reg : Byte) (payload : Bytes) {row : Row} (hf : row.fmt = .register)
    (hm : row.mask = 0x0000FF00) (hv : row.value = reg.toNat <<< 8) :
    row.matchesRequest (registerRequest hdr cmd reg payload) = true := by
  simp only [Row.matchesRequest, registerRequest, Request.lookupWord, frameBytes, hf, hm, hv, List.cons_append,
    byteAt_cons_zero, byteAt_cons_succ, head_and_register]
  simp

end Sys2Proof.Laws

namespace Sys2Proof.Laws.RowMatch

open Machine

theorem codecChecksum (reg len : Byte) (payload : Bytes) : Statement (.codecChecksum reg len payload) :=
  rowMatch_operation 0x01 _ rfl rfl rfl

theorem codecEncode (cmd : Cmd) (reg : Byte) (payload : Bytes) : Statement (.codecEncode cmd reg payload) :=
  rowMatch_operation 0x02 _ rfl rfl rfl

theorem codecValidate (cand : Bytes) : Statement (.codecValidate cand) := rowMatch_operation 0x03 _ rfl rfl rfl

theorem codecF32ToBytes (w : Word) : Statement (.codecF32ToBytes w) := rowMatch_operation 0x04 _ rfl rfl rfl

theorem decodeF32 (bs : Bytes) (k : Word) : Statement (.decodeF32 bs k) := rowMatch_operation 0x10 _ rfl rfl rfl

theorem decodeU8 (bs : Bytes) (k : Word) : Statement (.decodeU8 bs k) := rowMatch_operation 0x11 _ rfl rfl rfl

theorem decodeBool (bs : Bytes) (k : Word) : Statement (.decodeBool bs k) := rowMatch_operation 0x12 _ rfl rfl rfl

theorem decodeProtection (bs : Bytes) (k : Word) : Statement (.decodeProtection bs k) := rowMatch_operation 0x13 _ rfl rfl rfl

theorem decodeMode (bs : Bytes) (k : Word) : Statement (.decodeMode bs k) := rowMatch_operation 0x14 _ rfl rfl rfl

theorem decodeTelemetry (bs : Bytes) : Statement (.decodeTelemetry bs) := rowMatch_operation 0x15 _ rfl rfl rfl

theorem decodeComposite (bs : Bytes) : Statement (.decodeComposite bs) := rowMatch_operation 0x16 _ rfl rfl rfl

theorem decodeRegister (reg : Byte) (payload : Bytes) : Statement (.decodeRegister reg payload) :=
  rowMatch_operation 0x17 _ rfl rfl rfl

theorem framerPush (chunk : Bytes) : Statement (.framerPush chunk) := rowMatch_operation 0x20 _ rfl rfl rfl

theorem framerReset : Statement .framerReset := rowMatch_operation 0x21 _ rfl rfl rfl

theorem seqEnqueue (cmd : Bytes) : Statement (.seqEnqueue cmd) := rowMatch_operation 0x30 _ rfl rfl rfl

theorem seqIssue : Statement .seqIssue := rowMatch_operation 0x31 _ rfl rfl rfl

theorem seqTick : Statement .seqTick := rowMatch_operation 0x32 _ rfl rfl rfl

theorem linkOpen : Statement .linkOpen := rowMatch_operation 0x33 _ rfl rfl rfl

theorem linkClose : Statement .linkClose := rowMatch_operation 0x34 _ rfl rfl rfl

theorem statusRead (idx : Byte) : Statement (.statusRead idx) := rowMatch_operation 0x40 _ rfl rfl rfl

theorem blockReset : Statement .blockReset := rowMatch_operation 0x41 _ rfl rfl rfl

theorem frameGet (reg : Byte) (payload : Bytes) : Statement (.frameGet reg payload) :=
  rowMatch_outbound .get reg payload rfl rfl rfl

theorem frameSet (reg : Byte) (payload : Bytes) : Statement (.frameSet reg payload) :=
  rowMatch_outbound .set reg payload rfl rfl rfl

theorem frameEnable (reg : Byte) (payload : Bytes) : Statement (.frameEnable reg payload) :=
  rowMatch_outbound .enable reg payload rfl rfl rfl

theorem frameBaud (reg : Byte) (payload : Bytes) : Statement (.frameBaud reg payload) :=
  rowMatch_outbound .baud reg payload rfl rfl rfl

theorem frameInbound (tail : Bytes) : Statement (.frameInbound tail) := by
  simp only [Statement, Instr.row, encode, Row.matchesRequest, Request.lookupWord, byteAt_cons_zero, byteAt_cons_succ,
    head_and_header]
  simp [Config.hdrToHost]

theorem regInputV (hdr cmd : Byte) (payload : Bytes) : Statement (.regInputV hdr cmd payload) :=
  rowMatch_catalogue hdr cmd 0xC0 payload rfl rfl rfl

theorem regSetV (hdr cmd : Byte) (payload : Bytes) : Statement (.regSetV hdr cmd payload) :=
  rowMatch_catalogue hdr cmd 0xC1 payload rfl rfl rfl

theorem regSetI (hdr cmd : Byte) (payload : Bytes) : Statement (.regSetI hdr cmd payload) :=
  rowMatch_catalogue hdr cmd 0xC2 payload rfl rfl rfl

theorem regTelemetry (hdr cmd : Byte) (payload : Bytes) : Statement (.regTelemetry hdr cmd payload) :=
  rowMatch_catalogue hdr cmd 0xC3 payload rfl rfl rfl

theorem regTemp (hdr cmd : Byte) (payload : Bytes) : Statement (.regTemp hdr cmd payload) :=
  rowMatch_catalogue hdr cmd 0xC4 payload rfl rfl rfl

theorem regOutEn (hdr cmd : Byte) (payload : Bytes) : Statement (.regOutEn hdr cmd payload) :=
  rowMatch_catalogue hdr cmd 0xDB payload rfl rfl rfl

theorem regProtection (hdr cmd : Byte) (payload : Bytes) : Statement (.regProtection hdr cmd payload) :=
  rowMatch_catalogue hdr cmd 0xDC payload rfl rfl rfl

theorem regMode (hdr cmd : Byte) (payload : Bytes) : Statement (.regMode hdr cmd payload) :=
  rowMatch_catalogue hdr cmd 0xDD payload rfl rfl rfl

theorem regAllState (hdr cmd : Byte) (payload : Bytes) : Statement (.regAllState hdr cmd payload) :=
  rowMatch_catalogue hdr cmd 0xFF payload rfl rfl rfl

end Sys2Proof.Laws.RowMatch
end

