-- ==== Sys2Proof/Tests/Slice0.lean ====
section
/-! SUPPORT. Small tests: ill-formed terms, written-out encodings, the vectors of 95_test_vectors.md, one step each, and a witness
for the hypotheses of each statement. -/

namespace Sys2Proof.Tests

open Sys2Proof Sys2Proof.Machine

/-! ## Well-formedness: each check refuses an ill-formed term -/

theorem zeroBytes_length (n : Nat) : (zeroBytes n).length = n := List.length_replicate

theorem payload_256 : payloadFits (zeroBytes 256) = false := by
  rw [payloadFits, zeroBytes_length]; rfl

theorem payload_255 : payloadFits (zeroBytes 255) = true := by
  rw [payloadFits, zeroBytes_length]; rfl

theorem test_wf_refuses_long_frames :
    ((Instr.frameGet 0 (zeroBytes 256)).wf, (Instr.frameSet 0 (zeroBytes 256)).wf, (Instr.frameEnable 0 (zeroBytes 256)).wf,
      (Instr.frameBaud 0 (zeroBytes 256)).wf) = (false, false, false, false) := by
  simp only [Instr.wf, payload_256]

theorem test_wf_refuses_long_register_frames :
    [Instr.regInputV 0 0 (zeroBytes 256), .regSetV 0 0 (zeroBytes 256), .regSetI 0 0 (zeroBytes 256), .regTelemetry 0 0 (zeroBytes 256),
      .regTemp 0 0 (zeroBytes 256), .regOutEn 0 0 (zeroBytes 256), .regProtection 0 0 (zeroBytes 256), .regMode 0 0 (zeroBytes 256),
      .regAllState 0 0 (zeroBytes 256)].any Instr.wf = false := by
  simp only [Instr.wf, payload_256, List.any_cons, List.any_nil, Bool.or_self]

theorem test_wf_admits_largest :
    (Instr.frameGet 0 (zeroBytes 255)).wf = true ∧ (Instr.regTemp 0 0 (zeroBytes 255)).wf = true ∧
      (Instr.frameInbound [0xA1, 0xF0]).wf = true := ⟨payload_255, payload_255, rfl⟩

/-! ## Decoding: requests written out from 30_encoding.md R71 to R76 and R82 -/

def op (bs : Bytes) : Except DecodeError Instr := decode { fmt := .op, bytes := bs }
def frame (bs : Bytes) : Except DecodeError Instr := decode { fmt := .frame, bytes := bs }
def reg (bs : Bytes) : Except DecodeError Instr := decode { fmt := .register, bytes := bs }

def isOk (i : Instr) : Except DecodeError Instr → Bool
  | .ok j => i == j
  | .error _ => false

def isError (e : DecodeError) : Except DecodeError Instr → Bool
  | .ok _ => false
  | .error d => e == d

theorem test_decode_codec :
    isOk (.codecChecksum 0xC1 0x04 [0x00, 0x00, 0x40, 0x41]) (op [0x01, 0xC1, 0x04, 0x00, 0x00, 0x40, 0x41]) ∧
    isOk (.codecEncode .get 0xC1 []) (op [0x02, 0x00, 0xC1]) ∧
    isOk (.codecEncode .baud 0x00 [0x04]) (op [0x02, 0x03, 0x00, 0x04]) ∧
    isOk (.codecValidate [0xF0, 0xA1]) (op [0x03, 0xF0, 0xA1]) ∧
    isOk (.codecF32ToBytes 0x41400000) (op [0x04, 0x00, 0x00, 0x40, 0x41]) := by decide

theorem test_decode_decoders :
    isOk (.decodeF32 [0xAA] 0x04030201) (op [0x10, 0x01, 0x02, 0x03, 0x04, 0xAA]) ∧
    isOk (.decodeU8 [0x7F] 1) (op [0x11, 0x01, 0x00, 0x00, 0x00, 0x7F]) ∧
    isOk (.decodeBool [] 0) (op [0x12, 0x00, 0x00, 0x00, 0x00]) ∧
    isOk (.decodeProtection [0x06] 0) (op [0x13, 0x00, 0x00, 0x00, 0x00, 0x06]) ∧
    isOk (.decodeMode [0x01] 0) (op [0x14, 0x00, 0x00, 0x00, 0x00, 0x01]) ∧
    isOk (.decodeTelemetry [0x00]) (op [0x15, 0x00]) ∧
    isOk (.decodeComposite []) (op [0x16]) ∧
    isOk (.decodeRegister 0xDC [0x03]) (op [0x17, 0xDC, 0x03]) := by decide

theorem test_decode_framer_and_sequencer :
    isOk (.framerPush [0xF0]) (op [0x20, 0xF0]) ∧ isOk .framerReset (op [0x21]) ∧
    isOk (.seqEnqueue [0xF1, 0xA1]) (op [0x30, 0xF1, 0xA1]) ∧ isOk .seqIssue (op [0x31]) ∧ isOk .seqTick (op [0x32]) ∧
    isOk .linkOpen (op [0x33]) ∧ isOk .linkClose (op [0x34]) ∧ isOk (.statusRead 0x0D) (op [0x40, 0x0D]) ∧
    isOk .blockReset (op [0x41]) := by decide

theorem test_decode_frames :
    isOk (.frameGet 0xC1 []) (frame [0xF1, 0xA1, 0xC1, 0x00, 0xC1]) ∧
    isOk (.frameSet 0xC1 [0x00, 0x00, 0x40, 0x41]) (frame [0xF1, 0xB1, 0xC1, 0x04, 0x00, 0x00, 0x40, 0x41, 0x46]) ∧
    isOk (.frameEnable 0xDB [0x01]) (frame [0xF1, 0xC1, 0xDB, 0x01, 0x01, 0xDD]) ∧
    isOk (.frameBaud 0x00 [0x04]) (frame [0xF1, 0xB0, 0x00, 0x01, 0x04, 0x05]) ∧
    isOk (.frameInbound [0xB1, 0xDB, 0x01, 0x01, 0xDC]) (frame [0xF0, 0xB1, 0xDB, 0x01, 0x01, 0xDC]) := by decide

theorem test_decode_registers :
    isOk (.regInputV 0xF0 0xA1 []) (reg [0xF0, 0xA1, 0xC0, 0x00, 0xC0]) ∧
    isOk (.regSetV 0xF0 0xA1 [0x00, 0x00, 0x40, 0x41]) (reg [0xF0, 0xA1, 0xC1, 0x04, 0x00, 0x00, 0x40, 0x41, 0x46]) ∧
    isOk (.regSetI 0xF0 0xA1 []) (reg [0xF0, 0xA1, 0xC2, 0x00, 0xC2]) ∧
    isOk (.regTelemetry 0xF0 0xA1 []) (reg [0xF0, 0xA1, 0xC3, 0x00, 0xC3]) ∧
    isOk (.regTemp 0xF0 0xA1 []) (reg [0xF0, 0xA1, 0xC4, 0x00, 0xC4]) ∧
    isOk (.regOutEn 0xF0 0xA1 [0x01]) (reg [0xF0, 0xA1, 0xDB, 0x01, 0x01, 0xDD]) ∧
    isOk (.regProtection 0xF0 0xA1 [0x03]) (reg [0xF0, 0xA1, 0xDC, 0x01, 0x03, 0xE0]) ∧
    isOk (.regMode 0xF0 0xA1 []) (reg [0xF0, 0xA1, 0xDD, 0x00, 0xDD]) ∧
    isOk (.regAllState 0xF1 0xB1 []) (reg [0xF1, 0xB1, 0xFF, 0x00, 0xFF]) := by decide

theorem test_decode_rejects_by_name :
    isError .empty (op []) ∧ isError (.reservedOp 0x05) (op [0x05]) ∧ isError (.truncated 0x10) (op [0x10, 0, 0, 0]) ∧
    isError (.truncated 0x40) (op [0x40]) ∧ isError (.trailing 0x31) (op [0x31, 0]) ∧
    isError (.trailing 0x04) (op [0x04, 0, 0, 0, 0, 0]) ∧ isError (.cmdOperand 4) (op [0x02, 4, 0]) ∧
    isError (.badFrame .checksum) (frame [0xF1, 0xA1, 0xC1, 0x00, 0xC2]) ∧
    isError (.noFrameRow 0xF1 0xA2) (frame [0xF1, 0xA2, 0xC1, 0x00, 0xC1]) ∧
    isError (.noFrameRow 0xF2 0xA1) (frame [0xF2, 0xA1, 0xC1, 0x00, 0xC1]) ∧
    isError (.badFrame .short) (reg [0xF0]) ∧
    isError (.unknownRegister 0xC5) (reg [0xF0, 0xA1, 0xC5, 0x00, 0xC5]) := by decide

/-- One instruction per `op` row of spec/opcode_table.json, in the table's order. -/
def oneOfEachOperation : List Instr :=
  [.codecChecksum 0 0 [], .codecEncode .get 0 [], .codecValidate [], .codecF32ToBytes 0, .decodeF32 [] 0, .decodeU8 [] 0,
    .decodeBool [] 0, .decodeProtection [] 0, .decodeMode [] 0, .decodeTelemetry [], .decodeComposite [], .decodeRegister 0 [],
    .framerPush [], .framerReset, .seqEnqueue [], .seqIssue, .seqTick, .linkOpen, .linkClose, .statusRead 0, .blockReset]

/-- One per `frame` row. -/
def oneOfEachFrame : List Instr :=
  [.frameGet 0 [], .frameSet 0 [], .frameEnable 0 [], .frameBaud 0 [], .frameInbound [0, 0, 0, 0]]

/-- One per `register` row. -/
def oneOfEachRegister : List Instr :=
  [.regInputV 0 0 [], .regSetV 0 0 [], .regSetI 0 0 [], .regTelemetry 0 0 [], .regTemp 0 0 [], .regOutEn 0 0 [],
    .regProtection 0 0 [], .regMode 0 0 [], .regAllState 0 0 []]

/-- One per row. -/
def oneOfEach : List Instr := oneOfEachOperation ++ oneOfEachFrame ++ oneOfEachRegister

/-- No word matches two rows of one format. -/
theorem test_rows_do_not_overlap :
    (oneOfEach.map Instr.row).Pairwise fun a b => a.fmt ≠ b.fmt ∨ a.value &&& b.mask ≠ b.value &&& a.mask := by decide

/-- The table's words, fields zero: 8 bits for an operation, 32 for a head word. -/
theorem test_decodeTableWord_every_row :
    oneOfEach.map (fun i => decodeTableWord (if i.row.fmt == .op then 8 else 32) i.row.value) = oneOfEach.map some := by
  decide

/-- The state a step or an instruction leaves, where it leaves one. -/
def next : Result → Option State
  | .next t => some t
  | .fault _ => none
  | .refused _ => none

/-- The same words as the first request after reset: each is run. -/
theorem test_withFetchWord_runs_every_row :
    (oneOfEach.map fun i => next (step (State.reset.withFetchWord (if i.row.fmt == .op then 8 else 32) i.row.value))) =
      oneOfEach.map fun i => next (exec i { State.reset with stepNo := 1 }) := by
  decide

/-! ## Vectors of 95_test_vectors.md: one step each, on small states -/

/-- What one instruction answers. -/
def answer (i : Instr) (s : State) : Option Response := (next (exec i s)).map (·.response)

/-- The `log` events one instruction leaves. -/
def logsOf (i : Instr) (s : State) : Option (List LogEvent) := (next (exec i s)).map fun t => t.log.map (·.ev)

/-- Fields of the state one instruction leaves. -/
def look {α : Type} (f : State → α) (i : Instr) (s : State) : Option α := (next (exec i s)).map f

/-- V-L2-K3, V-L2-K4. -/
theorem test_checksum_wraps :
    answer (.codecChecksum 0xFF 0xFF [0xFF]) State.reset = some (.value (.byte 0xFD)) ∧
    answer (.codecChecksum 0x10 0x02 [0x80, 0x70]) State.reset = some (.value (.byte 0x02)) := by decide

/-- V-L1-4, V-L2-E3. -/
theorem test_encode :
    answer (.codecEncode .set 0xC1 [0x00, 0x00, 0x40, 0x41]) State.reset =
      some (.value (.bytes [0xF1, 0xB1, 0xC1, 0x04, 0x00, 0x00, 0x40, 0x41, 0x46])) ∧
    answer (.codecEncode .baud 0x00 [0x04]) State.reset = some (.value (.bytes [0xF1, 0xB0, 0x00, 0x01, 0x04, 0x05])) := by
  decide

/-- V-L2-E5. -/
theorem test_encode_too_long :
    exec (.codecEncode .set 0x01 (zeroBytes 256)) State.reset =
      .next { State.reset with response := .fault .encodeTooLong } := by
  show Host.Outcome.next (State.reset.answerEncode .set 0x01 (zeroBytes 256)) = _
  rw [State.answerEncode_long _ _ _ (by rw [zeroBytes_length]; decide)]
  rfl

/-- V-L1-4, V-L2-V9: the header is not checked. -/
theorem test_validate :
    answer (.codecValidate [0xF1, 0xB1, 0xC1, 0x04, 0x00, 0x00, 0x40, 0x41, 0xC6]) State.reset =
      some (.value (.verdict (.invalid .checksum))) ∧
    answer (.codecValidate [0, 0, 0, 0, 0]) State.reset =
      some (.value (.verdict (.valid { hdr := 0, cmd := 0, reg := 0, len := 0, payload := [] }))) := by decide

/-- V-L2-V3, V-L2-V11: the order of the checks. -/
theorem test_validate_order :
    answer (.codecValidate [0xF0, 0xA1, 0xC1, 0x00]) State.reset = some (.value (.verdict (.invalid .short))) ∧
    answer (.codecValidate [0xF0, 0x01, 0x02, 0x03, 0x04, 0x05]) State.reset =
      some (.value (.verdict (.invalid .length))) := by decide

/-- V-L2-D2. -/
theorem test_f32_to_bytes :
    answer (.codecF32ToBytes 0x7FC00001) State.reset = some (.value (.bytes [0x01, 0x00, 0xC0, 0x7F])) := by decide

/-- V-L2-D4. -/
theorem test_decode_f32 :
    answer (.decodeF32 [0xAA, 0x00, 0x00, 0x40, 0x41] 1) State.reset =
      some (.value (.f32 { w := 0x41400000, short := false })) := by decide

/-- V-L2-D7: no wrap of `k + 4`; the sentinel is the configured word (R105). -/
theorem test_decode_f32_short :
    look (fun t => (t.response, t.log.map (·.ev))) (.decodeF32 [0x00, 0x00, 0x40, 0x41] 0xFFFFFFFF)
        { State.reset with cfg := { Config.default with f32Sentinel := 0x7FC00000 } } =
      some (.value (.f32 { w := 0x7FC00000, short := true }), [{ code := .decodeShortF32, info := 0xFFFFFFFF }]) := by decide

/-- V-L2-D9, V-L2-D10. -/
theorem test_decode_u8 :
    answer (.decodeU8 [0x7F] 0) State.reset = some (.value (.u8 { b := 0x7F, short := false })) ∧
    look (fun t => (t.response, t.log.map (·.ev))) (.decodeU8 [0x7F] 1) State.reset =
      some (.value (.u8 { b := 0x00, short := true }), [{ code := .decodeShortU8, info := 1 }]) := by decide

/-- V-L2-D11, V-L2-D12. -/
theorem test_decode_bool :
    answer (.decodeBool [0xFF] 0) State.reset = some (.value (.bool { v := true, short := false })) ∧
    look (fun t => (t.response, t.log.map (·.ev))) (.decodeBool [] 0) State.reset =
      some (.value (.bool { v := false, short := true }), [{ code := .decodeShortU8, info := 0 }]) := by decide

/-- V-L2-D13, V-L2-D14: a clamp is not logged. -/
theorem test_decode_protection :
    answer (.decodeProtection [0x05] 0) State.reset =
      some (.value (.protection { val := { ord := 5, label := .lvp, clamped := false }, short := false })) ∧
    look (fun t => (t.response, t.log.map (·.ev))) (.decodeProtection [0x06] 0) State.reset =
      some (.value (.protection { val := { ord := 0, label := .none, clamped := true }, short := false }), []) := by decide

/-- V-L2-D16, V-L2-D17. -/
theorem test_decode_mode :
    answer (.decodeMode [0x01] 0) State.reset =
      some (.value (.mode { val := { ord := 1, label := .cv, clamped := false }, short := false })) ∧
    answer (.decodeMode [0x02] 0) State.reset =
      some (.value (.mode { val := { ord := 0, label := .cc, clamped := true }, short := false })) := by decide

/-- V-L2-T1. -/
theorem test_decode_telemetry :
    answer (.decodeTelemetry [0x00, 0x00, 0x40, 0x41, 0x00, 0x00, 0x00, 0x3F, 0x00, 0x00, 0xC0, 0x40]) State.reset =
      some (.value (.telemetry
        { v := { w := 0x41400000, short := false }, i := { w := 0x3F000000, short := false },
          p := { w := 0x40C00000, short := false } })) := by decide

/-- V-L2-T2, V-L2-T3. -/
theorem test_decode_telemetry_short :
    logsOf (.decodeTelemetry [0x00, 0x00, 0x40, 0x41, 0x00, 0x00, 0x00, 0x3F]) State.reset =
      some [{ code := .decodeShortF32, info := 8 }] ∧
    logsOf (.decodeTelemetry []) State.reset =
      some [{ code := .decodeShortF32, info := 0 }, { code := .decodeShortF32, info := 4 },
        { code := .decodeShortF32, info := 8 }] := by decide

/-- The composite payload of V-L2-C5: `s'` of V-L1-5 with bytes 108 and 109 out of range. -/
def compositePayload : Bytes :=
  [0x00, 0x00, 0xA0, 0x41, 0x00, 0x00, 0x40, 0x41, 0x00, 0x00, 0xA0, 0x40] ++ zeroBytes 95 ++ [0x01, 0x07, 0x05] ++ zeroBytes 29

set_option maxRecDepth 20000 in
/-- V-L2-C5. -/
theorem test_decode_composite :
    answer (.decodeComposite compositePayload) State.reset = some (.value (.composite (some
      { inputV := 0x41A00000, setV := 0x41400000, setI := 0x40A00000, outV := 0, outI := 0, outP := 0, temp := 0, outEn := true,
        protection := { ord := 0, label := .none, clamped := true }, mode := { ord := 0, label := .cc, clamped := true },
        raw := compositePayload }))) := by rfl

set_option maxRecDepth 20000 in
/-- V-L2-C3, V-L2-C4. -/
theorem test_decode_composite_short :
    look (fun t => (t.response, t.log.map (·.ev))) (.decodeComposite (compositePayload.take 138)) State.reset =
      some (.value (.composite none), [{ code := .decodeShortComposite, info := 138 }]) ∧
    logsOf (.decodeComposite []) State.reset = some [{ code := .decodeShortComposite, info := 0 }] := by
  exact ⟨rfl, rfl⟩

/-- V-L2-R4, V-L2-R8. -/
theorem test_decode_register :
    look (fun t => (t.response, t.log.map (·.ev))) (.decodeRegister 0xC1 []) State.reset =
      some (.value (.register (.f32 .setV { w := 0, short := true })), [{ code := .decodeShortF32, info := 0 }]) ∧
    look (fun t => (t.response, t.log.map (·.ev))) (.decodeRegister 0xC5 []) State.reset =
      some (.value (.register (.unknown 0xC5)), []) := by decide

/-- V-L2-R1, V-L1-1, V-L2-R2, V-L2-R3 through their rows. -/
theorem test_register_rows_f32 :
    answer (.regInputV 0xF0 0xA1 [0x00, 0x00, 0xA0, 0x41]) State.reset =
      some (.value (.register (.f32 .inputV { w := 0x41A00000, short := false }))) ∧
    answer (.regSetV 0xF0 0xA1 [0x00, 0x00, 0x40, 0x41]) State.reset =
      some (.value (.register (.f32 .setV { w := 0x41400000, short := false }))) ∧
    answer (.regSetI 0xF0 0xA1 [0x00, 0x00, 0xA0, 0x40]) State.reset =
      some (.value (.register (.f32 .setI { w := 0x40A00000, short := false }))) ∧
    answer (.regTemp 0xF0 0xA1 [0x00, 0x00, 0xA0, 0x41]) State.reset =
      some (.value (.register (.f32 .temp { w := 0x41A00000, short := false }))) := by decide

/-- V-L1-1, V-L2-R6, V-L2-R5 through their rows. -/
theorem test_register_rows_bytes :
    answer (.regOutEn 0xF0 0xA1 [0x01]) State.reset = some (.value (.register (.outEn { v := true, short := false }))) ∧
    answer (.regProtection 0xF0 0xA1 [0x07]) State.reset =
      some (.value (.register (.protection { val := { ord := 0, label := .none, clamped := true }, short := false }))) ∧
    answer (.regMode 0xF0 0xA1 [0x01]) State.reset =
      some (.value (.register (.mode { val := { ord := 1, label := .cv, clamped := false }, short := false }))) := by decide

/-- V-L2-T3 and V-L2-C4 through their rows. -/
theorem test_register_rows_records :
    (logsOf (.regTelemetry 0xF0 0xA1 []) State.reset).map List.length = some 3 ∧
    logsOf (.regAllState 0xF0 0xA1 []) State.reset = some [{ code := .decodeShortComposite, info := 0 }] := by decide

/-- V-L1-1, V-L2-E1 to E3 through their rows. -/
theorem test_frame_rows :
    answer (.frameGet 0xC0 []) State.reset = some (.value (.bytes [0xF1, 0xA1, 0xC0, 0x00, 0xC0])) ∧
    answer (.frameSet 0x55 [0x00]) State.reset = some (.value (.bytes [0xF1, 0xB1, 0x55, 0x01, 0x00, 0x56])) ∧
    answer (.frameEnable 0xDB [0x01]) State.reset = some (.value (.bytes [0xF1, 0xC1, 0xDB, 0x01, 0x01, 0xDD])) ∧
    answer (.frameBaud 0x00 [0x04]) State.reset = some (.value (.bytes [0xF1, 0xB0, 0x00, 0x01, 0x04, 0x05])) := by decide

/-- V-L2-F3 through its row: the frame is held, and nothing comes out (R159). -/
theorem test_frame_inbound_held :
    look (fun t => (t.fmode, t.pending, t.cntCandidates, t.frameOut.length)) (.frameInbound [0xA1, 0xC1, 0x00, 0xC1]) State.reset =
      some (.collect, [0xF0, 0xA1, 0xC1, 0x00, 0xC1], 0, 0) := by decide

/-- The next host-bound frame hands off the one that is held (V-L1-7). -/
theorem test_frame_inbound_hands_off :
    look (fun t => (t.cntFramesValid, t.pending, t.frameOut.map (·.ev))) (.frameInbound [0xB1, 0xDB, 0x01, 0x01, 0xDC])
        { State.reset with fmode := .collect, pending := [0xF0, 0xA1, 0xC1, 0x00, 0xC1] } =
      some (1, [0xF0, 0xB1, 0xDB, 0x01, 0x01, 0xDC],
        [{ raw := [0xF0, 0xA1, 0xC1, 0x00, 0xC1], hdr := 0xF0, cmd := 0xA1, reg := 0xC1, len := 0, payload := [] }]) := by
  decide

/-- The bytes of V-L1-7. -/
def endToEnd : Instr := .framerPush [0xF0, 0xA1, 0xC1, 0x00, 0xC1, 0xF0, 0xB1, 0xDB, 0x01, 0x01, 0xDC, 0xF0]

/-- V-L1-7, V-L2-Q4. -/
theorem test_push_end_to_end :
    look (fun t => (t.frameOut.map (·.ev.raw), t.log.map (·.ev))) endToEnd State.reset =
      some ([[0xF0, 0xA1, 0xC1, 0x00, 0xC1]], [{ code := .candChecksum, info := 6 }]) ∧
    look (fun t => (t.fmode, t.pending, t.cntCandidates, t.cntFramesValid, t.cntFramesInvalid)) endToEnd State.reset =
      some (.collect, [0xF0], 2, 1, 1) := by decide

/-- V-L2-F10: the false positive of R253. -/
theorem test_push_false_positive :
    look (fun t => (t.frameOut.map (·.ev.raw), t.log.map (·.ev), t.cntCandidates))
        (.framerPush [0xF0, 0xA1, 0x55, 0x06, 0x14, 0xF0, 0xA1, 0xC1, 0x01, 0x01, 0xC3, 0xF0]) State.reset =
      some ([[0xF0, 0xA1, 0xC1, 0x01, 0x01, 0xC3]], [{ code := .candLength, info := 5 }], 2) := by decide

/-- V-L2-F14, its `FRAMER_RESET`: nothing is logged or counted. -/
theorem test_framer_reset :
    look (fun t => (t.fmode, t.pending, t.log.length, t.cntCandidates)) .framerReset
        { State.reset with fmode := .collect, pending := [0xF0, 0xA1, 0xC1] } = some (.idle, [], 0, 0) := by decide

/-- V-L2-S13: the ticket wraps. -/
theorem test_enqueue_wraps :
    look (fun t => (t.response, t.nextTicket, t.queue)) (.seqEnqueue [0x07]) { State.reset with nextTicket := 0xFFFFFFFF } =
      some (.value (.ticket 0xFFFFFFFF), 0, [{ ticket := 0xFFFFFFFF, cmd := [0x07] }]) := by decide

/-- V-L2-S11 in a queue of one: the length is checked before fullness. -/
theorem test_enqueue_rejects :
    let full : State := { State.reset with cfg := { Config.default with seqQcap := 1 }, queue := [{ ticket := 0, cmd := [7] }],
                                           nextTicket := 1 }
    look (fun t => (t.completion.map (·.ev), t.log.map (·.ev))) (.seqEnqueue []) full =
      some ([{ ticket := 1, status := .rejected }], [{ code := .seqBadCmdLength, info := 0 }]) ∧
    look (fun t => (t.completion.map (·.ev), t.log.map (·.ev), t.cntRejected)) (.seqEnqueue [8]) full =
      some ([{ ticket := 1, status := .rejected }], [{ code := .seqQueueFull, info := 1 }], 1) := by decide

/-- Two commands wait, the link is down and the delay is over (V-L2-S9). -/
def twoWaiting : State :=
  { State.reset with queue := [{ ticket := 0, cmd := [0xA0] }, { ticket := 1, cmd := [0xB0] }], nextTicket := 2 }

/-- V-L2-S9. -/
theorem test_issue_link_down :
    look (fun t => (t.linkTx.map (·.ev), t.completion.map (·.ev), t.log.map (·.ev))) .seqIssue twoWaiting =
      some ([{ bytes := [0xA0], outcome := .fail }],
        [{ ticket := 0, status := .txFailed }, { ticket := 1, status := .dropped }],
        [{ code := .seqTxFailed, info := 0 }, { code := .seqDropped, info := 1 }]) ∧
    look (fun t => (t.queue, t.delay, t.cntTxFail, t.cntDropped)) .seqIssue twoWaiting = some ([], 50, 1, 1) := by decide

/-- V-L2-S3: not enabled while the delay runs. -/
theorem test_issue_suspended :
    look (fun t => (t.response, t.queue.length, t.delay)) .seqIssue { twoWaiting with delay := 1 } = some (.noStep, 2, 1) := by
  decide

/-- The example of R185. -/
theorem test_tick :
    look State.delay .seqTick { State.reset with delay := 2 } = some 1 ∧ look State.delay .seqTick State.reset = some 0 := by decide

/-- The example of R186. -/
theorem test_link_open : look State.linkUp .linkOpen State.reset = some true := by decide

/-- The example of R187; the delay stays. -/
theorem test_link_close :
    look (fun t => (t.completion.map (fun c => (c.ev, c.seq)), t.log.map (fun l => (l.ev, l.seq)), t.linkUp, t.delay, t.fmode))
        .linkClose
        { State.reset with queue := [{ ticket := 4, cmd := [1] }, { ticket := 5, cmd := [2] }], linkUp := true, delay := 50,
                           fmode := .collect, pending := [0xF0] } =
      some ([({ ticket := 4, status := .dropped }, 0), ({ ticket := 5, status := .dropped }, 2)],
        [({ code := .seqDropped, info := 4 }, 1), ({ code := .seqDropped, info := 5 }, 3)], false, 50, .idle) := by decide

/-- V-L2-Q2, V-L2-Q3. -/
theorem test_status_read :
    [14, 15, 16, 17, 0xFF].map (fun i => answer (.statusRead i) State.reset) =
      [50, 260, 16, 0, 0].map fun w => some (.value (.status w)) := by decide

/-- V-L2-B1: the state is the reset state, and the dropped command's events are appended. -/
theorem test_block_reset :
    look (fun t => ({ t with completion := [], log := [], eventNo := 0, response := .nothing } == State.reset,
          t.completion.map (·.ev), t.log.map (·.ev))) .blockReset
        { State.reset with fmode := .collect, pending := [0xF0, 0xA1, 0xC1], queue := [{ ticket := 1, cmd := [0xF1] }], delay := 49,
                           linkUp := true, nextTicket := 2, cntTxOk := 1 } =
      some (true, [{ ticket := 1, status := .dropped }], [{ code := .seqDropped, info := 1 }]) := by decide

/-- V-L2-O1: a reserved operation id, through a step. -/
theorem test_reserved_operation :
    next (step { State.reset with requests := [{ fmt := .op, bytes := [0x42, 0x00] }] }) =
      some { State.reset with stepNo := 1, response := .fault .reservedOp } := by decide

/-- R102: a malformed device-bound frame is dropped silently, through a step. -/
theorem test_malformed_frame_is_dropped :
    next (step { State.reset with requests := [{ fmt := .frame, bytes := [0xF1, 0xA1, 0xC1, 0x00, 0xC2] }] }) =
      some { State.reset with stepNo := 1, response := .ignored (.badFrame .checksum) } := by decide

/-- R183 with a `DELAY_TICKS` over 32 bits: the 32-bit counter is loaded modulo 2^32 (R232, log 2). -/
theorem test_delay_is_32_bits :
    look State.delay .seqIssue { twoWaiting with cfg := { Config.default with delayTicks := 2 ^ 32 + 7 } } = some 7 := by decide

/-! ## Witnesses: a concrete state and operands that meet the hypotheses of each statement, clause by clause -/

/-- `StepKeepsInvariant`: a step that hands off a valid frame, from a state that meets the invariant. -/
theorem witness_StepKeepsInvariant :
    ∃ t, State.Inv { State.reset with fmode := .collect, pending := [0xF0, 0xA1, 0xC1, 0x00, 0xC1],
                                      requests := [{ fmt := .op, bytes := [0x20, 0xF0] }] } ∧
      step { State.reset with fmode := .collect, pending := [0xF0, 0xA1, 0xC1, 0x00, 0xC1],
                              requests := [{ fmt := .op, bytes := [0x20, 0xF0] }] } = .next t ∧ t.frameOut.length = 1 :=
  ⟨_, by decide, rfl, by decide⟩

/-- `StepRunsDecodedInstruction`. -/
theorem witness_StepRunsDecodedInstruction :
    State.reset.cfg.legal = true ∧ decode { fmt := .op, bytes := [0x33] } = .ok .linkOpen := ⟨by decide, rfl⟩

/-- `StepWithoutRequestWaits`. -/
theorem witness_StepWithoutRequestWaits : State.reset.cfg.legal = true ∧ State.reset.requests = [] := by decide

/-- `StepRefusesExactlyIllegalConfigurations`: both sides, at the bounds. -/
theorem witness_StepRefusesExactlyIllegalConfigurations :
    (({ Config.default with framerCap := 259 }).framerCap < 260 ∧ ({ Config.default with seqQcap := 0 }).seqQcap < 1) ∧
      ¬ (({ Config.default with framerCap := 260, seqQcap := 1 }).framerCap < 260 ∨
        ({ Config.default with framerCap := 260, seqQcap := 1 }).seqQcap < 1) := by decide

/-- `ReservedOperationIsRefused`: the ids of V-L2-O1. -/
theorem witness_ReservedOperationIsRefused : State.reset.cfg.legal = true ∧
    ∀ id ∈ ([0x00, 0x05, 0x22, 0x35, 0x42, 0xFF] : List Byte), id.toNat ∉ [0x01, 0x02, 0x03, 0x04, 0x10, 0x11, 0x12, 0x13, 0x14,
      0x15, 0x16, 0x17, 0x20, 0x21, 0x30, 0x31, 0x32, 0x33, 0x34, 0x40, 0x41] := by decide

/-- `UnknownRegisterLookupIsIgnored`, `DecodeRegisterDispatches`: the ids beside the catalogue's. -/
theorem witness_UnknownRegisterLookupIsIgnored : State.reset.cfg.legal = true ∧ (zeroBytes 255).length ≤ 255 ∧
    ∀ reg ∈ ([0x55, 0xBF, 0xC5, 0xDA, 0xDE, 0xFE] : List Byte),
      reg.toNat ∉ [0xC0, 0xC1, 0xC2, 0xC3, 0xC4, 0xDB, 0xDC, 0xDD, 0xFF] :=
  ⟨by decide, by rw [zeroBytes_length], by decide⟩

/-- `MalformedRequestIsDropped`: one request for each reason; `EveryStepAnswersNextState`. -/
theorem witness_MalformedRequestIsDropped : State.reset.cfg.legal = true ∧
    isError .empty (op []) ∧ isError (.truncated 0x10) (op [0x10]) ∧ isError (.trailing 0x31) (op [0x31, 0]) ∧
    isError (.cmdOperand 4) (op [0x02, 4, 0]) ∧ isError (.badFrame .short) (reg [0xF0]) ∧
    isError (.noFrameRow 0xF1 0xA2) (frame [0xF1, 0xA2, 0xC1, 0x00, 0xC1]) ∧
    ∀ e ∈ [DecodeError.empty, .truncated 0x10, .trailing 0x31, .cmdOperand 4, .badFrame .short, .noFrameRow 0xF1 0xA2],
      (∀ id, e ≠ .reservedOp id) ∧ ∀ reg, e ≠ .unknownRegister reg := by
  refine ⟨by decide, by decide, by decide, by decide, by decide, by decide, by decide, ?_⟩
  simp

/-- `DecodeOfEncodeIsIdentity`: the largest payloads, and an operand with every bit used. -/
theorem witness_DecodeOfEncodeIsIdentity :
    (Instr.frameSet 0xFF (zeroBytes 255)).wf = true ∧ (Instr.regTemp 0xFF 0xFF (zeroBytes 255)).wf = true ∧
      (Instr.decodeF32 [0xFF] 0xFFFFFFFF).wf = true := ⟨payload_255, payload_255, rfl⟩

/-- `EncodeOfDecodeIsIdentity`. -/
theorem witness_EncodeOfDecodeIsIdentity :
    decode { fmt := .op, bytes := [0x10, 0xFF, 0xFF, 0xFF, 0xFF, 0xAA] } = .ok (.decodeF32 [0xAA] 0xFFFFFFFF) := rfl

/-- `ChecksumSeesOnePayloadByte`: the last byte of a payload, changed. -/
theorem witness_ChecksumSeesOnePayloadByte :
    2 < ([0x00, 0x00, 0x40] : Bytes).length ∧ (0x41 : Byte) ≠ ([0x00, 0x00, 0x40] : Bytes).getD 2 0 := by decide

/-- `EncodeBuildsFrameOrFaults`, `FrameRowsBuildTheirFrame`, `CodecRoundTripLaw`: 255 and 256 bytes. -/
theorem witness_EncodeBuildsFrameOrFaults : (zeroBytes 255).length ≤ 255 ∧ 255 < (zeroBytes 256).length := by
  simp only [zeroBytes_length]; decide

/-- `CodecOperationsArePure`: one with a warning. -/
theorem witness_CodecOperationsArePure :
    isCodec (.decodeF32 [] 0) = true ∧ State.reset.cfg.f32Sentinel = 0 ∧
      (logsOf (.decodeF32 [] 0) State.reset).map List.length = some 1 := by decide

/-- `DecodeF32ReadsOrWarns`: one byte short, and exactly four bytes. -/
theorem witness_DecodeF32ReadsOrWarns :
    (1 : Word).toNat + 4 > ([1, 2, 3, 4] : Bytes).length ∧ (1 : Word).toNat + 4 ≤ ([1, 2, 3, 4, 5] : Bytes).length := by decide

/-- `DecodeU8ReadsOrWarns`, `DecodeBoolIsNonZero`: at the end, and the last byte. -/
theorem witness_DecodeU8ReadsOrWarns :
    (1 : Word).toNat + 1 > ([7] : Bytes).length ∧ ([7, 9] : Bytes)[(1 : Word).toNat]? = some 9 := by decide

/-- `DecodeProtectionLabelsOrClamps`, `DecodeModeLabelsOrClamps`: the last ordinal and the first beyond it. -/
theorem witness_DecodeProtectionLabelsOrClamps :
    (0 : Word).toNat + 1 > ([] : Bytes).length ∧ ([5] : Bytes)[(0 : Word).toNat]? = some 5 ∧
      ([6] : Bytes)[(0 : Word).toNat]? = some 6 ∧ ([1] : Bytes)[(0 : Word).toNat]? = some 1 ∧
      ([2] : Bytes)[(0 : Word).toNat]? = some 2 := by decide

/-- `CompositeIsAllOrNothing`: 138 and 139 bytes, and the ordinals at their bounds. -/
theorem witness_CompositeIsAllOrNothing :
    (zeroBytes 138).length < 139 ∧ 139 ≤ (zeroBytes 139).length ∧ ((5 : Byte) ≤ 5 ∧ ¬ (6 : Byte) ≤ 5) ∧
      ((1 : Byte) ≤ 1 ∧ ¬ (2 : Byte) ≤ 1) := by
  simp only [zeroBytes_length]; decide

/-- A candidate is open. -/
def collecting (cap : Nat) (pending : Bytes) : State :=
  { State.reset with cfg := { Config.default with framerCap := cap }, fmode := .collect, pending := pending }

/-- `OrdinaryByteIsDroppedKeptOrOverflows`: IDLE, the last byte that fits, the first that does not. -/
theorem witness_OrdinaryByteIsDroppedKeptOrOverflows : (0xF1 : Byte) ≠ 0xF0 ∧ State.reset.fmode = .idle ∧
    ((collecting 260 (0xF0 :: zeroBytes 258)).fmode = .collect ∧
      (collecting 260 (0xF0 :: zeroBytes 258)).pending.length < (collecting 260 (0xF0 :: zeroBytes 258)).cfg.framerCap) ∧
    ((collecting 260 (0xF0 :: zeroBytes 259)).fmode = .collect ∧
      ¬ (collecting 260 (0xF0 :: zeroBytes 259)).pending.length < (collecting 260 (0xF0 :: zeroBytes 259)).cfg.framerCap) := by
  simp only [collecting, List.length_cons, zeroBytes_length]; decide

/-- `SentinelHandsOffTheCandidate`, `InboundFrameIsReceived`: IDLE; a valid candidate; one for each reason. -/
theorem witness_SentinelHandsOffTheCandidate : State.reset.fmode = .idle ∧
    validate (collecting 260 [0xF0, 0xA1, 0xC1, 0x00, 0xC1]).pending =
      .valid { hdr := 0xF0, cmd := 0xA1, reg := 0xC1, len := 0, payload := [] } ∧
    validate (collecting 260 [0xF0]).pending = .invalid .short ∧
    validate (collecting 260 [0xF0, 0xA1, 0xC1, 0x00, 0xC1, 0x00]).pending = .invalid .length ∧
    validate (collecting 260 [0xF0, 0xB1, 0xDB, 0x01, 0x01, 0xDC]).pending = .invalid .checksum := by decide

/-- `InboundFrameIsReceived`: the largest frame that fits, without an interior sentinel. -/
theorem witness_InboundFrameIsReceived : State.reset.fmode = .idle ∧ (0xF0 : Byte) ∉ zeroBytes 259 ∧
    (zeroBytes 259).length + 1 ≤ State.reset.cfg.framerCap :=
  ⟨rfl, fun h => absurd (List.eq_of_mem_replicate h) (by decide), by rw [zeroBytes_length]; decide⟩

/-- `ChunkingDoesNotMatter`: the chunks of V-L2-F1. -/
theorem witness_ChunkingDoesNotMatter : ([[0xF0, 0xA1, 0xC1], [0x00, 0xC1, 0xF0, 0xB1], [0xDB, 0x01, 0x01, 0xDC, 0xF0]] : List Bytes) ≠ [] := by
  decide

/-- `FramerEmitsTheSourcesValidSpans`: the smallest capacity, V-L2-F6's bytes, and what follows the last sentinel. -/
theorem witness_FramerEmitsTheSourcesValidSpans : 260 ≤ State.reset.cfg.framerCap ∧ State.reset.fmode = .idle ∧
    State.reset.pending = [] ∧ (0xF0 : Byte) ∈ ([0x55, 0xF1, 0xF0, 0xA1, 0xC1, 0x00, 0xC1, 0xF0, 0xA1] : Bytes) ∧
    (([0x55, 0xF1, 0xF0, 0xA1, 0xC1, 0x00, 0xC1, 0xF0, 0xA1] : Bytes).splitOn 0xF0).getLast? = some [0xA1] ∧
    validSpans [0x55, 0xF1, 0xF0, 0xA1, 0xC1, 0x00, 0xC1, 0xF0, 0xA1] = [[0xF0, 0xA1, 0xC1, 0x00, 0xC1]] := by
  simp only [validSpans, sentinelSpans, List.splitOn_cons_eq_if_modifyHead, List.splitOn_nil]
  decide

/-- `NoSentinelNoFrame`: a chunk in IDLE, and one that just fills an open candidate. -/
theorem witness_NoSentinelNoFrame : (0xF0 : Byte) ∉ ([0xA1, 0xF1] : Bytes) ∧ State.reset.fmode = .idle ∧
    (collecting 260 (0xF0 :: zeroBytes 257)).fmode = .collect ∧
    (collecting 260 (0xF0 :: zeroBytes 257)).pending.length + ([0xA1, 0xF1] : Bytes).length ≤
      (collecting 260 (0xF0 :: zeroBytes 257)).cfg.framerCap := by
  simp only [collecting, List.length_cons, zeroBytes_length]; decide

/-- `FramesComeOutOnlyAtASentinel`: a tick while a frame is held. -/
theorem witness_FramesComeOutOnlyAtASentinel : ∃ t, exec .seqTick (collecting 260 [0xF0, 0xA1, 0xC1, 0x00, 0xC1]) = .next t ∧
    (0xF0 : Byte) ∉ receivedBytes [.seqTick] ∧ Instr.seqTick ≠ .blockReset := ⟨_, rfl, by decide, by decide⟩

/-- `RunEmitsTheValidSpansReceived`: pushes and a host-bound frame, with steps of other agents between them. -/
theorem witness_RunEmitsTheValidSpansReceived :
    ∃ t, 260 ≤ twoWaiting.cfg.framerCap ∧ twoWaiting.fmode = .idle ∧ twoWaiting.pending = [] ∧
      execAll [.framerPush [0xF0, 0xA1], .seqIssue, .framerPush [0xC1, 0x00, 0xC1], .frameInbound [0xB1]] twoWaiting = .next t ∧
      (∀ i ∈ [Instr.framerReset, .linkClose, .blockReset],
        i ∉ [Instr.framerPush [0xF0, 0xA1], .seqIssue, .framerPush [0xC1, 0x00, 0xC1], .frameInbound [0xB1]]) ∧
      t.frameOut.map (·.ev.raw) = [[0xF0, 0xA1, 0xC1, 0x00, 0xC1]] :=
  ⟨_, by decide, by decide, by decide, rfl, by decide, by decide⟩

/-- `CutFrameFailsValidation`: the cuts at both ends of each clause. -/
theorem witness_CutFrameFailsValidation : ∀ m ∈ [1, 4, 5, 8],
    ([0x00, 0x00, 0x40, 0x41] : Bytes).length ≤ 255 ∧ 1 ≤ m ∧ m ≤ 4 + ([0x00, 0x00, 0x40, 0x41] : Bytes).length := by decide

/-- `EnqueueAcceptsOrRejects`: 0, 1, 260 and 261 bytes; a full queue and one with room. -/
theorem witness_EnqueueAcceptsOrRejects :
    (([] : Bytes).length < 1 ∧ (zeroBytes 261).length > 260) ∧ (1 ≤ ([7] : Bytes).length ∧ (zeroBytes 260).length ≤ 260) ∧
    ({ twoWaiting with cfg := { Config.default with seqQcap := 2 } } : State).queue.length = 2 ∧
    twoWaiting.queue.length ≠ twoWaiting.cfg.seqQcap := by
  simp only [zeroBytes_length]; decide

/-- `IssueWithoutEnableChangesNothing`: idle, and suspended. -/
theorem witness_IssueWithoutEnableChangesNothing :
    State.reset.queue = [] ∧ 0 < ({ twoWaiting with delay := 1 } : State).delay := by decide

/-- `IssueTransmitsTheHead`: with the link down and with the link up. -/
theorem witness_IssueTransmitsTheHead :
    twoWaiting.queue = { ticket := 0, cmd := [0xA0] } :: [{ ticket := 1, cmd := [0xB0] }] ∧ twoWaiting.delay = 0 ∧
      twoWaiting.linkUp = false ∧ ({ twoWaiting with linkUp := true } : State).linkUp = true := by decide

/-- `TickCountsDown`. -/
theorem witness_TickCountsDown : 0 < ({ State.reset with delay := 1 } : State).delay ∧ State.reset.delay = 0 := by decide

/-- One command waits, the link is down, one tick separates transmits. -/
def oneWaiting : State :=
  { State.reset with cfg := { Config.default with delayTicks := 1 }, queue := [{ ticket := 0, cmd := [0xA0] }], nextTicket := 1 }

/-- `TransmitsAreSpacedByDelayTicks`: a run of exactly `DELAY_TICKS` ticks. -/
theorem witness_TransmitsAreSpacedByDelayTicks :
    ∃ s1 s2, oneWaiting.queue ≠ [] ∧ oneWaiting.delay = 0 ∧ exec .seqIssue oneWaiting = .next s1 ∧
      Instr.blockReset ∉ [Instr.seqTick, .seqEnqueue [0xB0]] ∧ execAll [.seqTick, .seqEnqueue [0xB0]] s1 = .next s2 ∧
      s2.queue ≠ [] ∧ s2.delay = 0 :=
  ⟨_, _, by decide, by decide, rfl, by decide, rfl, by decide, by decide⟩

/-- `EntriesLeaveFromTheHeadInOrder`, `OnlyIssueWritesTheLink`: an issue that writes the link and empties the queue. -/
theorem witness_OnlyIssueWritesTheLink :
    ∃ t, exec .seqIssue twoWaiting = .next t ∧ t.linkTx ≠ twoWaiting.linkTx ∧ t.queue = [] ∧ t.completion.length = 2 :=
  ⟨_, rfl, by decide, by decide, by decide⟩

/-- `EveryTicketIsResolvedOnce`, `TransmitsFollowEnqueueOrder`: a run that enqueues, transmits and drops. -/
theorem witness_EveryTicketIsResolvedOnce :
    ∃ t, execAll [.seqEnqueue [0xC0], .seqIssue, .seqEnqueue []] twoWaiting = .next t ∧
      Instr.blockReset ∉ [Instr.seqEnqueue [0xC0], .seqIssue, .seqEnqueue []] ∧ t.completion.length = 4 :=
  ⟨_, rfl, by decide, by decide⟩

/-- `EveryTicketIsResolvedOnce`: the tickets of that run are distinct. -/
theorem witness_EveryTicketIsResolvedOnce_distinct :
    (twoWaiting.queue.map (·.ticket) ++ (List.range (enqueuedCommands [.seqEnqueue [0xC0], .seqIssue, .seqEnqueue []]).length).map
      fun j => twoWaiting.nextTicket + BitVec.ofNat 32 j).Nodup := by decide

/-- `LinkUpAndTicketHaveTheirWriters`, `CountersHaveTheirWriters`, `StreamsOnlyGrow`, `HostInterfaceFieldsHaveTheirWriters`. -/
theorem witness_CountersHaveTheirWriters :
    ∃ t, exec .linkClose twoWaiting = .next t ∧ Instr.linkClose ≠ .blockReset ∧ (∀ x, Instr.linkClose ≠ .framerPush x) ∧
      (∀ x, Instr.linkClose ≠ .frameInbound x) ∧ Instr.linkClose ≠ .seqIssue ∧ (∀ x, Instr.linkClose ≠ .seqEnqueue x) ∧
      t.cntDropped = 2 :=
  ⟨_, rfl, by decide, by simp, by simp, by decide, by simp, by decide⟩

end Sys2Proof.Tests
end

