-- ==== Sys2Proof/Proofs/Scope.lean ====
section
/-! PROOFS. What one step answers, case by case (00_scope.md R7, R12; 60_exceptions.md R220), and the statements about it. -/

namespace Sys2Proof

open Machine

/-- The configurations R7 refuses. -/
theorem Config.legal_eq_false_iff (c : Config) : c.legal = false ↔ c.framerCap < 260 ∨ c.seqQcap < 1 := by
  rw [← Bool.not_eq_true, Config.legal_iff, not_and_or, Nat.not_le, Nat.not_le]

end Sys2Proof

namespace Sys2Proof.Machine

/-! ### The equations of `serve` and `step` -/

theorem serve_of_decode_ok {r : Request} {i : Instr} (h : decode r = .ok i) (s : State) : serve r s = exec i s := by
  rw [serve, h]

theorem serve_of_decode_error {r : Request} {e : DecodeError} (h : decode r = .error e) (s : State) :
    serve r s = .next (s.rejectRequest e) := by
  rw [serve, h]

theorem step_of_illegal {s : State} (h : s.cfg.legal = false) : step s = .refused .illegalConfiguration := by
  rw [step, h]
  rfl

theorem step_of_no_request {s : State} (hl : s.cfg.legal = true) (hr : s.requests = []) : step s = .next s := by
  rw [step, if_pos hl, hr]

theorem step_of_request {s : State} {r : Request} {rest : List Request} (hl : s.cfg.legal = true)
    (hr : s.requests = r :: rest) : step s = serve r (s.takeRequest rest) := by
  rw [step, if_pos hl, hr]

/-! ### Every error is contained in its step (R220, R225) -/

/-- `exec` is total. Only `SEQ_ENQUEUE` and `SEQ_ISSUE` branch before they answer; every other arm is `.next` of a state. -/
theorem exec_answers_next (i : Instr) (s : State) : ∃ t : State, exec i s = .next t := by
  cases i with
  | seqEnqueue cmd =>
    obtain ⟨-, h⟩ | ⟨-, -, -, h⟩ | ⟨-, -, -, h⟩ := execSeqEnqueue_cases cmd s <;> exact ⟨_, h⟩
  | seqIssue =>
    obtain ⟨-, h⟩ | ⟨_, _, _, -, -, -, -, h⟩ := execSeqIssue_cases s <;> exact ⟨_, h⟩
  | _ => exact ⟨_, rfl⟩

theorem serve_answers_next (r : Request) (s : State) : ∃ t : State, serve r s = .next t := by
  cases h : decode r with
  | ok i =>
    rw [serve_of_decode_ok h]
    exact exec_answers_next i s
  | error e => exact ⟨_, serve_of_decode_error h s⟩

theorem step_answers_next {s : State} (hl : s.cfg.legal = true) : ∃ t : State, step s = .next t := by
  cases hr : s.requests with
  | nil => exact ⟨s, step_of_no_request hl hr⟩
  | cons r rest =>
    rw [step_of_request hl hr]
    exact serve_answers_next r (s.takeRequest rest)

/-! ### The statements -/

/-- Settles O4: a step serves its head request, and serving a request that decodes is running its instruction. -/
theorem stepRunsDecodedInstruction : Obligations.StepRunsDecodedInstruction := by
  intro s r rest i hl hr hd
  calc step s = serve r (s.takeRequest rest) := step_of_request hl hr
    _ = exec i (s.takeRequest rest) := serve_of_decode_ok hd _

/-- Settles O6: an illegal configuration is refused before the requests are looked at; in a legal one every step answers a next
state, so none is refused. -/
theorem stepRefusesExactlyIllegalConfigurations : Obligations.StepRefusesExactlyIllegalConfigurations := by
  intro s
  rw [← Config.legal_eq_false_iff]
  refine ⟨step_of_illegal, fun hrefused => Bool.eq_false_iff.mpr fun hlegal => ?_⟩
  obtain ⟨t, hnext⟩ := step_answers_next hlegal
  rw [hnext] at hrefused
  cases hrefused

end Sys2Proof.Machine
end

/-! PROOFS. What every step keeps of the state (10_state.md): the block invariant (R24 to R26), which instruction writes which
register (R27, R28, R30), and the streams that only grow (R32). -/

namespace Sys2Proof.Machine

/-! ### What keeps the block invariant, operation by operation -/

theorem State.Inv.emitLogs {s : State} (h : s.Inv) (ws : List LogEvent) : (s.emitLogs ws).Inv := by
  obtain ⟨hframer, hqueue, hdelay, hcount, houtput, hstamp⟩ := h
  refine ⟨?_, ?_, ?_, ?_, ?_, hstamp.emitLogs ws⟩ <;> rw [s.emitLogs_eq]
  · exact hframer
  · exact hqueue
  · exact hdelay
  · exact hcount
  · exact houtput

/-- Received bytes touch nothing the queue's and the delay's bounds speak of, and the framer keeps its own part (R154). -/
theorem State.Inv.receive {s : State} (h : s.Inv) (hcap : 1 ≤ s.cfg.framerCap) (x : Bytes) :
    (x.foldl State.framerByte s).Inv := by
  obtain ⟨hframer, hqueue, hdelay, hcount, houtput, hstamp⟩ := h
  have hpart := foldl_framerByte_keeps hcap ⟨hframer, hcount, houtput, hstamp⟩ x
  have hsame := (foldl_framerByte_frame x s).same
  refine ⟨hpart.framer, ?_, ?_, hpart.count, hpart.output, hpart.stamp⟩ <;> rw [hsame]
  · exact hqueue
  · exact hdelay

/-- A queue below its bound has room for one more command of a legal length (R25, R180). -/
theorem State.Inv.accept {s : State} (h : s.Inv) {cmd : Bytes} (hpos : 1 ≤ cmd.length) (hmax : cmd.length ≤ 260)
    (hroom : s.queue.length ≠ s.cfg.seqQcap) : (s.accept cmd).Inv := by
  obtain ⟨hframer, ⟨hlen, hcmds⟩, hdelay, hcount, houtput, hstamp⟩ := h
  refine ⟨hframer, ⟨?_, ?_⟩, hdelay, hcount, houtput, hstamp⟩
  · simpa [State.accept] using Nat.lt_of_le_of_ne hlen hroom
  · simp only [State.accept, State.answer_queue, List.mem_append, List.mem_singleton]
    rintro e (he | rfl)
    · exact hcmds e he
    · exact ⟨hpos, hmax⟩

theorem State.Inv.reject {s : State} (h : s.Inv) (log : LogEvent) : (s.reject log).Inv := by
  obtain ⟨hframer, hqueue, hdelay, hcount, houtput, hstamp⟩ := h
  have hcounted : State.StampInv { s with nextTicket := s.nextTicket + 1, cntRejected := s.cntRejected + 1 } := hstamp
  exact ⟨hframer, hqueue, hdelay, hcount, houtput, (hcounted.emitCompletion _).emitLog log⟩

/-- Taking the head off the queue leaves a queue within its bounds (R183). -/
theorem State.Inv.dequeue {s : State} (h : s.Inv) {e : Entry} {rest : List Entry} (hq : s.queue = e :: rest) (n : Nat) :
    State.Inv { s with queue := rest, draws := n } := by
  obtain ⟨hframer, ⟨hlen, hcmds⟩, hdelay, hcount, houtput, hstamp⟩ := h
  rw [hq] at hlen hcmds
  exact ⟨hframer, ⟨Nat.le_of_succ_le hlen, fun x hx => hcmds x (List.mem_cons_of_mem e hx)⟩, hdelay, hcount, houtput, hstamp⟩

theorem State.Inv.tick {s : State} (h : s.Inv) :
    State.Inv { s with delay := if 0 < s.delay then s.delay - 1 else s.delay } := by
  obtain ⟨hframer, hqueue, hdelay, hcount, houtput, hstamp⟩ := h
  refine ⟨hframer, hqueue, ?_, hcount, houtput, hstamp⟩
  calc (if 0 < s.delay then s.delay - 1 else s.delay).toNat = s.delay.toNat - 1 := delay_tick_toNat s.delay
    _ ≤ s.delay.toNat := Nat.sub_le _ _
    _ ≤ s.cfg.delayTicks := hdelay

/-- The registers at their reset values meet the bounds whatever the parameters (R250). -/
theorem State.Inv.zeroRegisters {s : State} (h : s.Inv) : s.zeroRegisters.Inv := by
  obtain ⟨hframer, hqueue, -, -, houtput, hstamp⟩ := h
  exact ⟨hframer, hqueue, Nat.zero_le _, rfl, houtput, hstamp⟩

/-- The step counter only moves on, so no event is of a step still to come (R231). -/
theorem State.Inv.takeRequest {s : State} (h : s.Inv) (rest : List Request) : (s.takeRequest rest).Inv := by
  obtain ⟨hframer, hqueue, hdelay, hcount, houtput, hperm, hframe, hlog, htx, hcompletion, hsteps⟩ := h
  exact ⟨hframer, hqueue, hdelay, hcount, houtput, hperm, hframe, hlog, htx, hcompletion,
    fun n hn => Nat.le_succ_of_le (hsteps n hn)⟩

/-- No clause reads what the last step answered. -/
theorem State.Inv.respond {s : State} (h : s.Inv) (a : Response) : State.Inv { s with response := a } := h

/-- No clause reads whether the link is up. -/
theorem State.Inv.setLink {s : State} (h : s.Inv) (up : Bool) : State.Inv { s with linkUp := up } := h

/-- Every instruction keeps the invariant. The framer needs room for the sentinel that opens a candidate (R24), which a legal
configuration gives (R7). -/
theorem exec_keeps_inv {i : Instr} {s t : State} (hcap : 1 ≤ s.cfg.framerCap) (hs : s.Inv) (h : exec i s = .next t) :
    t.Inv := by
  obtain ⟨-, ws, a, rfl⟩ | ⟨chunk, -, rfl⟩ | ⟨tail, -, rfl⟩ | ⟨-, rfl⟩ | ⟨cmd, -, hpos, hmax, hroom, rfl⟩ |
    ⟨cmd, log, -, rfl⟩ | ⟨-, -, rfl⟩ | ⟨-, e, rest, o, hq, -, -, -, rfl⟩ | ⟨-, rfl⟩ | ⟨-, rfl⟩ | ⟨-, rfl⟩ |
    ⟨idx, -, rfl⟩ | ⟨-, rfl⟩ := exec_cases h
  · exact (hs.emitLogs ws).respond a
  · exact (hs.receive hcap chunk).respond _
  · exact (hs.receive hcap (Config.hdrToHost :: tail)).respond _
  · exact hs.framerClear.respond _
  · exact hs.accept hpos hmax hroom
  · exact hs.reject log
  · exact hs.respond _
  · exact ((hs.dequeue hq _).transmit e o).respond _
  · exact hs.tick.respond _
  · exact (hs.setLink true).respond _
  · exact (hs.setLink false).flush.framerClear.respond _
  · exact hs.respond _
  · exact hs.flush.framerClear.zeroRegisters.respond _

/-! ### The invariant's statements -/

/-- Settles O3: a legal step waits, runs an instruction, or drops a request, and each keeps the invariant. -/
theorem stepKeepsInvariant : Obligations.StepKeepsInvariant := by
  intro s t hs hstep
  obtain ⟨hlegal, ⟨-, rfl⟩ | ⟨r, rest, i, -, -, hexec⟩ | ⟨rest, a, rfl⟩⟩ := step_cases hstep
  · exact hs
  · have hcap : 1 ≤ s.cfg.framerCap := by
      have := (Config.legal_iff s.cfg).mp hlegal
      omega
    exact exec_keeps_inv (s := s.takeRequest rest) hcap (hs.takeRequest rest) hexec
  · exact (hs.takeRequest rest).respond a

/-- Settles O2: at reset no byte, no command and no event is held, so every bound is met; R6's defaults are legal. -/
theorem resetMeetsInvariant : Obligations.ResetMeetsInvariant := by
  refine ⟨⟨?framer, ?queue, ?delay, ?count, ?output, ?stamp⟩, ?legal⟩
  case framer => exact ⟨⟨fun _ => rfl, fun _ => rfl⟩, nofun⟩
  case queue => exact ⟨Nat.zero_le _, nofun⟩
  case delay => exact Nat.zero_le _
  case count => rfl
  case output => exact nofun
  case stamp => exact ⟨.refl _, .nil, .nil, .nil, .nil, nofun⟩
  case legal => decide

/-! ### Streams -/

/-- From `s` to `t` the four streams only grow and the configuration stays (R31, R32). -/
def Grows (s t : State) : Prop :=
  s.frameOut <+: t.frameOut ∧ s.log <+: t.log ∧ s.linkTx <+: t.linkTx ∧ s.completion <+: t.completion ∧ t.cfg = s.cfg

theorem Grows.refl (s : State) : Grows s s :=
  ⟨List.prefix_rfl, List.prefix_rfl, List.prefix_rfl, List.prefix_rfl, rfl⟩

theorem FramerFrame.grows {s t : State} (h : FramerFrame s t) : Grows s t :=
  ⟨h.frames, h.logs, by rw [h.same], by rw [h.same], by rw [h.same]⟩

theorem State.emitLogs_grows (s : State) (ws : List LogEvent) : Grows s (s.emitLogs ws) := by
  rw [s.emitLogs_eq]
  exact ⟨List.prefix_rfl, List.prefix_append _ _, List.prefix_rfl, List.prefix_rfl, rfl⟩

theorem State.flush_grows (s : State) : Grows s s.flush := by
  rw [s.flush_eq]
  exact ⟨List.prefix_rfl, List.prefix_append _ _, List.prefix_rfl, List.prefix_append _ _, rfl⟩

theorem State.reject_grows (s : State) (log : LogEvent) : Grows s (s.reject log) :=
  ⟨List.prefix_rfl, List.prefix_append _ _, List.prefix_rfl, List.prefix_append _ _, rfl⟩

theorem State.transmit_grows (s : State) (e : Entry) (o : TxOutcome) : Grows s (s.transmit e o) := by
  cases o with
  | ok =>
    rw [s.transmit_ok]
    exact ⟨List.prefix_rfl, List.prefix_rfl, List.prefix_append _ _, List.prefix_append _ _, rfl⟩
  | fail =>
    rw [s.transmit_fail]
    exact ⟨List.prefix_rfl, List.prefix_append _ _, List.prefix_append _ _, List.prefix_append _ _, rfl⟩

/-- An operation either appends to the streams or touches neither them nor the configuration. -/
theorem exec_grows {i : Instr} {s t : State} (h : exec i s = .next t) : Grows s t := by
  obtain ⟨-, ws, a, rfl⟩ | ⟨chunk, -, rfl⟩ | ⟨tail, -, rfl⟩ | ⟨-, rfl⟩ | ⟨cmd, -, -, -, -, rfl⟩ |
    ⟨cmd, log, -, rfl⟩ | ⟨-, -, rfl⟩ | ⟨-, e, rest, o, -, -, -, -, rfl⟩ | ⟨-, rfl⟩ | ⟨-, rfl⟩ | ⟨-, rfl⟩ |
    ⟨idx, -, rfl⟩ | ⟨-, rfl⟩ := exec_cases h
  · exact s.emitLogs_grows ws
  · exact (foldl_framerByte_frame chunk s).grows
  · exact (foldl_framerByte_frame (Config.hdrToHost :: tail) s).grows
  · exact Grows.refl s
  · exact Grows.refl s
  · exact s.reject_grows log
  · exact Grows.refl s
  · exact State.transmit_grows { s with queue := rest, draws := _ } e o
  · exact Grows.refl s
  · exact Grows.refl s
  · exact State.flush_grows { s with linkUp := false }
  · exact Grows.refl s
  · exact s.flush_grows

/-- Settles O59: `Grows` is the statement for one instruction. -/
theorem streamsOnlyGrow : Obligations.StreamsOnlyGrow := fun _ _ _ h => exec_grows h

/-! ### Writers -/

/-- Settles O57: the framer, the flush, the transmit and the codec's logs leave both registers; an enqueue writes the ticket
whether it is accepted or rejected. -/
theorem linkUpAndTicketHaveTheirWriters : Obligations.LinkUpAndTicketHaveTheirWriters := by
  intro i s t h
  obtain ⟨hi, ws, a, rfl⟩ | ⟨chunk, rfl, rfl⟩ | ⟨tail, rfl, rfl⟩ | ⟨rfl, rfl⟩ | ⟨cmd, rfl, -, -, -, rfl⟩ |
    ⟨cmd, log, rfl, rfl⟩ | ⟨rfl, -, rfl⟩ | ⟨rfl, e, rest, o, -, -, -, -, rfl⟩ | ⟨rfl, rfl⟩ | ⟨rfl, rfl⟩ | ⟨rfl, rfl⟩ |
    ⟨idx, rfl, rfl⟩ | ⟨rfl, rfl⟩ := exec_cases h
  · have hcodec : ∀ cmd, i ≠ .seqEnqueue cmd := by
      rintro cmd rfl
      cases hi
    simp [hcodec, State.emitLogs_eq]
  · rw [(foldl_framerByte_frame chunk s).same]
    simp
  · rw [(foldl_framerByte_frame (Config.hdrToHost :: tail) s).same]
    simp
  · simp
  · simp [State.accept]
  · simp [State.reject_eq]
  · simp
  · cases o <;> simp [State.transmit_ok, State.transmit_fail]
  · simp
  · simp
  · simp [State.flush_eq]
  · simp
  · simp

/-- Settles O58: only received bytes reach the framer's counters, only a transmit the two of its outcome, only a flush
`CNT_DROPPED`, which LINK_CLOSE runs and a failed transmit of SEQ_ISSUE, and only a rejection `CNT_REJECTED`. -/
theorem countersHaveTheirWriters : Obligations.CountersHaveTheirWriters := by
  intro i s t h hreset
  obtain ⟨-, ws, a, rfl⟩ | ⟨chunk, rfl, rfl⟩ | ⟨tail, rfl, rfl⟩ | ⟨rfl, rfl⟩ | ⟨cmd, rfl, -, -, -, rfl⟩ |
    ⟨cmd, log, rfl, rfl⟩ | ⟨rfl, -, rfl⟩ | ⟨rfl, e, rest, o, -, -, -, -, rfl⟩ | ⟨rfl, rfl⟩ | ⟨rfl, rfl⟩ | ⟨rfl, rfl⟩ |
    ⟨idx, rfl, rfl⟩ | ⟨rfl, rfl⟩ := exec_cases h
  · simp [State.emitLogs_eq]
  · rw [(foldl_framerByte_frame chunk s).same]
    simp
  · rw [(foldl_framerByte_frame (Config.hdrToHost :: tail) s).same]
    simp
  · simp
  · simp [State.accept]
  · simp [State.reject_eq]
  · simp
  · cases o <;> simp [State.transmit_ok, State.transmit_fail]
  · simp
  · simp
  · simp [State.flush_eq]
  · simp
  · exact absurd rfl hreset

end Sys2Proof.Machine

/-! PROOFS. The link and the queue (20_memory.md R57, R61; 42_sequencer.md R181, R183): one inversion lemma says what an instruction
does to `link_tx` and to `queue`, and both statements about the link are read off it. -/

namespace Sys2Proof.Machine

/-! ### What the shared operations leave of the queue and of `link_tx` -/

/-- Received bytes reach neither (R154). -/
theorem FramerFrame.linkTx_and_queue {s t : State} (h : FramerFrame s t) : t.linkTx = s.linkTx ∧ t.queue.Sublist s.queue := by
  rw [h.same]
  exact ⟨rfl, .refl _⟩

@[simp] theorem State.flush_queue (s : State) : s.flush.queue = [] := rfl

@[simp] theorem State.flush_linkTx (s : State) : s.flush.linkTx = s.linkTx := by rw [s.flush_eq]

/-- Either outcome writes the entry's whole bytes in one event (R57). -/
@[simp] theorem State.transmit_linkTx (s : State) (e : Entry) (o : TxOutcome) :
    (s.transmit e o).linkTx = s.linkTx ++ [s.stamp 0 { bytes := e.cmd, outcome := o }] := by
  cases o with
  | ok => rw [s.transmit_ok]
  | fail => rw [s.transmit_fail]

/-- OK keeps what waits behind the entry, FAIL drops it (R183, R184). -/
theorem State.transmit_queue_sublist (s : State) (e : Entry) (o : TxOutcome) : (s.transmit e o).queue.Sublist s.queue := by
  cases o with
  | ok => exact .refl _
  | fail =>
    rw [s.transmit_fail]
    exact List.nil_sublist _

/-! ### What one instruction does to the queue and to `link_tx` -/

/-- An instruction leaves `link_tx` and at most drops commands that wait, or it appends its command to the queue, or it is an
enabled issue, which transmits the head. -/
theorem exec_link_cases {i : Instr} {s t : State} (h : exec i s = .next t) :
    (t.linkTx = s.linkTx ∧ t.queue.Sublist s.queue) ∨
    (∃ cmd, i = .seqEnqueue cmd ∧ t.linkTx = s.linkTx ∧ t.queue = s.queue ++ [{ ticket := s.nextTicket, cmd := cmd }]) ∨
    (i = .seqIssue ∧ ∃ e rest o, s.queue = e :: rest ∧ s.delay = 0 ∧
      t.linkTx = s.linkTx ++ [s.stamp 0 { bytes := e.cmd, outcome := o }] ∧ t.queue.Sublist rest) := by
  obtain ⟨-, ws, a, rfl⟩ | ⟨chunk, -, rfl⟩ | ⟨tail, -, rfl⟩ | ⟨-, rfl⟩ | ⟨cmd, rfl, -, -, -, rfl⟩ |
    ⟨cmd, log, -, rfl⟩ | ⟨-, -, rfl⟩ | ⟨rfl, e, rest, o, hq, hd, -, -, rfl⟩ | ⟨-, rfl⟩ | ⟨-, rfl⟩ | ⟨-, rfl⟩ |
    ⟨idx, -, rfl⟩ | ⟨-, rfl⟩ := exec_cases h
  · exact .inl (by simp [s.emitLogs_eq])
  · exact .inl (foldl_framerByte_frame chunk s).linkTx_and_queue
  · exact .inl (foldl_framerByte_frame (Config.hdrToHost :: tail) s).linkTx_and_queue
  · exact .inl ⟨rfl, .refl _⟩
  · exact .inr (.inl ⟨cmd, rfl, rfl, rfl⟩)
  · exact .inl ⟨rfl, .refl _⟩
  · exact .inl ⟨rfl, .refl _⟩
  · exact .inr (.inr ⟨rfl, e, rest, o, hq, hd, State.transmit_linkTx _ e o, State.transmit_queue_sublist _ e o⟩)
  · exact .inl ⟨rfl, .refl _⟩
  · exact .inl ⟨rfl, .refl _⟩
  · exact .inl (by simp)
  · exact .inl ⟨rfl, .refl _⟩
  · exact .inl (by simp)

/-- Settles O53: of the three cases of `exec_link_cases` only the enabled issue changes `link_tx`. -/
theorem onlyIssueWritesTheLink : Obligations.OnlyIssueWritesTheLink := by
  intro i s t h hwrites
  obtain ⟨hsame, -⟩ | ⟨cmd, -, hsame, -⟩ | ⟨hi, e, rest, o, hq, hd, htx, -⟩ := exec_link_cases h
  · exact absurd hsame hwrites
  · exact absurd hsame hwrites
  · exact ⟨hi, e, rest, o, hq, hd, htx⟩

/-! ### Runs -/

/-- A run of `i :: is` ends in a next state exactly when `i` answers one and the run of `is` goes on from it. -/
theorem execAll_cons_eq_next_iff {i : Instr} {is : List Instr} {s u : State} :
    execAll (i :: is) s = .next u ↔ ∃ t, exec i s = .next t ∧ execAll is t = .next u := by
  rw [execAll]
  cases exec i s <;> simp

theorem enqueuedCommands_cons (i : Instr) (is : List Instr) :
    enqueuedCommands (i :: is) = enqueuedCommands [i] ++ enqueuedCommands is := by
  cases i <;> rfl

/-! ### The order of the link -/

/-- Between `s` and `t`, with the commands `cmds` enqueued on the way, the transmitted and the waiting keep the enqueue order (R61). -/
def TransmitsInOrder (cmds : List Bytes) (s t : State) : Prop :=
  ∃ ext : List (Stamped LinkTx), t.linkTx = s.linkTx ++ ext ∧
    (ext.map (·.ev.bytes) ++ t.queue.map (·.cmd)).Sublist (s.queue.map (·.cmd) ++ cmds)

theorem TransmitsInOrder.refl (s : State) : TransmitsInOrder [] s s := ⟨[], by simp, by simp⟩

/-- What still waited after the first part is what the second transmits from first. -/
theorem TransmitsInOrder.trans {xs ys : List Bytes} {s t u : State} (hst : TransmitsInOrder xs s t)
    (htu : TransmitsInOrder ys t u) : TransmitsInOrder (xs ++ ys) s u := by
  obtain ⟨ext₁, htx₁, hsub₁⟩ := hst
  obtain ⟨ext₂, htx₂, hsub₂⟩ := htu
  refine ⟨ext₁ ++ ext₂, by rw [htx₂, htx₁, List.append_assoc], ?_⟩
  have hsecond := hsub₂.append_left (ext₁.map (·.ev.bytes))
  have hfirst := hsub₁.append_right ys
  rw [List.append_assoc, List.append_assoc] at hfirst
  rw [List.map_append, List.append_assoc]
  exact hsecond.trans hfirst

theorem exec_transmitsInOrder {i : Instr} {s t : State} (h : exec i s = .next t) :
    TransmitsInOrder (enqueuedCommands [i]) s t := by
  obtain ⟨htx, hq⟩ | ⟨cmd, rfl, htx, hq⟩ | ⟨rfl, e, rest, o, hs, -, htx, hq⟩ := exec_link_cases h
  · exact ⟨[], by simp [htx], (hq.map _).trans (List.sublist_append_left _ _)⟩
  · exact ⟨[], by simp [htx], by simp [hq, enqueuedCommands]⟩
  · refine ⟨_, htx, ?_⟩
    simpa [hs, enqueuedCommands, State.stamp] using hq.map (·.cmd)

theorem execAll_transmitsInOrder {is : List Instr} {s t : State} (h : execAll is s = .next t) :
    TransmitsInOrder (enqueuedCommands is) s t := by
  induction is generalizing s with
  | nil =>
    cases h
    exact .refl _
  | cons i is ih =>
    obtain ⟨u, hexec, hrest⟩ := execAll_cons_eq_next_iff.mp h
    rw [enqueuedCommands_cons]
    exact (exec_transmitsInOrder hexec).trans (ih hrest)

/-- Settles O52: `TransmitsInOrder` holds of one instruction and composes along a run. -/
theorem transmitsFollowEnqueueOrder : Obligations.TransmitsFollowEnqueueOrder := fun _ _ _ h => execAll_transmitsInOrder h

end Sys2Proof.Machine

/-! PROOFS. The request format (30_encoding.md R71 to R76, R81, R82): the decoder and the encoder are inverse to each other on the
well-formed instructions, and the ids outside the two tables are answered as R82 and R78 say. -/

namespace Sys2Proof

open Machine

/-! ### The operands of a request -/

theorem byte_eq_ofNat_of_toNat {b : Byte} {n : Nat} (h : b.toNat = n) : b = BitVec.ofNat 8 n := by
  rw [← h, BitVec.ofNat_toNat, BitVec.setWidth_eq]

/-- A byte that decodes to a command is that command's 2-bit code, padded (R73). -/
theorem encodeCmd_of_decodeCmd {b : Byte} {cmd : Cmd} (h : decodeCmd b = some cmd) : encodeCmd cmd = b := by
  unfold decodeCmd at h
  split at h <;> cases h <;> rename_i hb <;> exact (byte_eq_ofNat_of_toNat hb).symm

/-- A 32-bit operand as `encode` writes it reads back, and leaves the byte string whole (R82, R53). -/
theorem offsetAndString_le32Bytes (id : Byte) (k : Word) (bs : Bytes) (mk : Bytes → Word → Instr) :
    offsetAndString id (le32Bytes k ++ bs) mk = .ok (mk bs k) := by
  obtain ⟨b0, b1, b2, b3, hbytes, hk⟩ := le32Bytes_operand k
  rw [hbytes, ← hk]
  rfl

theorem decodeOperands_codecF32ToBytes (w : Word) : decodeOperands 0x04 (le32Bytes w) = .ok (.codecF32ToBytes w) := by
  obtain ⟨b0, b1, b2, b3, hbytes, hw⟩ := le32Bytes_operand w
  rw [hbytes, ← hw]
  rfl

theorem decodeOperands_codecEncode (cmd : Cmd) (reg : Byte) (payload : Bytes) :
    decodeOperands 0x02 (encodeCmd cmd :: reg :: payload) = .ok (.codecEncode cmd reg payload) := by
  cases cmd <;> rfl

/-! ### Frames as requests -/

/-- The valid frame with these fields (R71, R74). -/
def wireFrame (hdr cmd reg : Byte) (payload : Bytes) : Frame :=
  { hdr := hdr, cmd := cmd, reg := reg, len := BitVec.ofNat 8 payload.length, payload := payload }

theorem decode_outboundRequest (cmd : Cmd) (reg : Byte) {payload : Bytes} (h : payloadFits payload = true) :
    decode (outboundRequest cmd reg payload) = decodeOutbound (wireFrame Config.hdrToDevice (cmdByte cmd) reg payload) :=
  decodeFrame_outbound (cmdByte cmd) reg payload ((payloadFits_iff payload).mp h)

theorem decode_registerRequest (hdr cmd reg : Byte) {payload : Bytes} (h : payloadFits payload = true) :
    decode (registerRequest hdr cmd reg payload) = decodeCatalogue (wireFrame hdr cmd reg payload) :=
  decodeRegisterRow_frame hdr cmd reg payload ((payloadFits_iff payload).mp h)

/-! ### Decode of encode -/

/-- Settles O12: the id byte, the header and command, or the register byte chooses the instruction's own row again; 32-bit
operands and payloads read back, and every other operand stands in the request as it is. -/
theorem decodeOfEncodeIsIdentity : Obligations.DecodeOfEncodeIsIdentity := by
  intro i hwf
  cases i with
  | codecEncode cmd reg payload => exact decodeOperands_codecEncode cmd reg payload
  | codecF32ToBytes w => exact decodeOperands_codecF32ToBytes w
  | decodeF32 bs k => exact offsetAndString_le32Bytes 0x10 k bs .decodeF32
  | decodeU8 bs k => exact offsetAndString_le32Bytes 0x11 k bs .decodeU8
  | decodeBool bs k => exact offsetAndString_le32Bytes 0x12 k bs .decodeBool
  | decodeProtection bs k => exact offsetAndString_le32Bytes 0x13 k bs .decodeProtection
  | decodeMode bs k => exact offsetAndString_le32Bytes 0x14 k bs .decodeMode
  | frameGet reg payload | frameSet reg payload | frameEnable reg payload | frameBaud reg payload =>
    exact decode_outboundRequest _ reg hwf
  | regInputV hdr cmd payload | regSetV hdr cmd payload | regSetI hdr cmd payload | regTelemetry hdr cmd payload
  | regTemp hdr cmd payload | regOutEn hdr cmd payload | regProtection hdr cmd payload | regMode hdr cmd payload
  | regAllState hdr cmd payload =>
    exact decode_registerRequest hdr cmd _ hwf
  | _ => rfl

/-! ### Encode of decode -/

/-- The instruction is well formed and `encode` writes it as the request `r`. -/
def Represents (i : Instr) (r : Request) : Prop := i.wf = true ∧ encode i = r

theorem represents_of_noOperand {id : Byte} {rest : Bytes} {i j : Instr} (h : noOperand id rest j = .ok i)
    (hj : Represents j (opRequest id [])) : Represents i (opRequest id rest) := by
  cases rest with
  | nil =>
    cases h
    exact hj
  | cons b rest => cases h

theorem represents_of_offsetAndString {id : Byte} {rest : Bytes} {mk : Bytes → Word → Instr} {i : Instr}
    (h : offsetAndString id rest mk = .ok i) (hmk : ∀ bs k, Represents (mk bs k) (opRequest id (le32Bytes k ++ bs))) :
    Represents i (opRequest id rest) := by
  unfold offsetAndString at h
  split at h
  · next k0 k1 k2 k3 bs =>
    cases h
    simpa [le32Bytes_le32] using hmk bs (le32 [k0, k1, k2, k3] 0)
  · cases h

/-- The operands of fixed width are those the encoder writes, and no byte before or after them is dropped (R82). -/
theorem represents_of_decodeOperands {id : Byte} {rest : Bytes} {i : Instr} (h : decodeOperands id rest = .ok i) :
    Represents i (opRequest id rest) := by
  unfold decodeOperands at h
  split at h
  case h_22 => cases h
  all_goals
    rename_i hid
    obtain rfl := byte_eq_ofNat_of_toNat hid
  case h_1 => -- CODEC_CHECKSUM
    split at h <;> cases h
    exact ⟨rfl, rfl⟩
  case h_2 => -- CODEC_ENCODE
    split at h
    · split at h <;> cases h
      next hcmd => exact ⟨rfl, by rw [encode, encodeCmd_of_decodeCmd hcmd]; rfl⟩
    · cases h
  case h_4 => -- CODEC_F32_TO_BYTES
    split at h <;> cases h
    exact ⟨rfl, by rw [encode, le32Bytes_le32]; rfl⟩
  case h_12 => -- DECODE_REGISTER
    split at h <;> cases h
    exact ⟨rfl, rfl⟩
  case h_20 => -- STATUS_READ
    split at h <;> cases h
    exact ⟨rfl, rfl⟩
  case h_5 | h_6 | h_7 | h_8 | h_9 => exact represents_of_offsetAndString h fun _ _ => ⟨rfl, rfl⟩
  case h_14 | h_16 | h_17 | h_18 | h_19 | h_21 => exact represents_of_noOperand h ⟨rfl, rfl⟩
  all_goals
    cases h
    exact ⟨rfl, rfl⟩

theorem represents_of_decodeOutbound {f : Frame} {i : Instr} (h : decodeOutbound f = .ok i)
    (hfits : payloadFits f.payload = true) :
    Represents i { fmt := .frame, bytes := frameBytes f.hdr f.cmd f.reg f.payload } := by
  unfold decodeOutbound at h
  split at h
  · next hhdr =>
    split at h <;> cases h <;> rename_i hcmd <;>
      exact ⟨hfits, by rw [hhdr, byte_eq_ofNat_of_toNat hcmd]; rfl⟩
  · cases h

theorem represents_of_decodeCatalogue {f : Frame} {i : Instr} (h : decodeCatalogue f = .ok i)
    (hfits : payloadFits f.payload = true) : Represents i (registerRequest f.hdr f.cmd f.reg f.payload) := by
  unfold decodeCatalogue at h
  split at h <;> cases h <;> rename_i hreg <;>
    exact ⟨hfits, by rw [byte_eq_ofNat_of_toNat hreg]; rfl⟩

/-- Host-bound bytes are carried as they are; a device-bound frame is valid, so it is the frame of its fields (R102). -/
theorem represents_of_decodeFrame {bytes : Bytes} {i : Instr} (h : decodeFrame bytes = .ok i) :
    Represents i { fmt := .frame, bytes := bytes } := by
  cases bytes with
  | nil => cases h
  | cons hdr tail =>
    rw [decodeFrame] at h
    split at h
    · next hhdr =>
      cases h
      exact ⟨rfl, by rw [hhdr]; rfl⟩
    · split at h
      · cases h
      · next f hvalid =>
        obtain ⟨hbytes, hlen, -⟩ := eq_frameBytes_of_validate hvalid
        rw [hbytes]
        exact represents_of_decodeOutbound h ((payloadFits_iff _).mpr hlen)

theorem represents_of_decodeRegisterRow {bytes : Bytes} {i : Instr} (h : decodeRegisterRow bytes = .ok i) :
    Represents i { fmt := .register, bytes := bytes } := by
  unfold decodeRegisterRow at h
  split at h
  · cases h
  · next f hvalid =>
    obtain ⟨hbytes, hlen, -⟩ := eq_frameBytes_of_validate hvalid
    rw [hbytes]
    exact represents_of_decodeCatalogue h ((payloadFits_iff _).mpr hlen)

/-- Settles O13: `Represents` holds of whatever each of the three formats decodes to. -/
theorem encodeOfDecodeIsIdentity : Obligations.EncodeOfDecodeIsIdentity := by
  rintro ⟨fmt, bytes⟩ i h
  cases fmt with
  | op =>
    cases bytes with
    | nil => cases h
    | cons id rest => exact represents_of_decodeOperands h
  | frame => exact represents_of_decodeFrame h
  | register => exact represents_of_decodeRegisterRow h

/-! ### Ids outside the tables -/

/-- Past the 21 ids of R82 the decoder's table has its default row alone. -/
theorem decodeOperands_reserved {id : Byte} (operands : Bytes)
    (h : id.toNat ∉ [0x01, 0x02, 0x03, 0x04, 0x10, 0x11, 0x12, 0x13, 0x14, 0x15, 0x16, 0x17, 0x20, 0x21, 0x30, 0x31, 0x32,
      0x33, 0x34, 0x40, 0x41]) : decodeOperands id operands = .error (.reservedOp id) := by
  unfold decodeOperands
  split
  case h_22 => rfl
  all_goals
    rename_i hid
    exact absurd (by rw [hid]; decide) h

/-- Past the nine ids of R76 the catalogue has its default row alone. -/
theorem decodeCatalogue_unknown {f : Frame} (h : f.reg.toNat ∉ [0xC0, 0xC1, 0xC2, 0xC3, 0xC4, 0xDB, 0xDC, 0xDD, 0xFF]) :
    decodeCatalogue f = .error (.unknownRegister f.reg) := by
  unfold decodeCatalogue
  split
  case h_10 => rfl
  all_goals
    rename_i hreg
    exact absurd (by rw [hreg]; decide) h

/-- Settles O7: a reserved id is a decode error, which the step answers with the fault alone. -/
theorem reservedOperationIsRefused : Obligations.ReservedOperationIsRefused := by
  intro s id operands rest hlegal hrequests hreserved
  have hdecode : decode (opRequest id operands) = .error (.reservedOp id) := decodeOperands_reserved operands hreserved
  calc step s = serve (opRequest id operands) (s.takeRequest rest) := step_of_request hlegal hrequests
    _ = .next ((s.takeRequest rest).rejectRequest (.reservedOp id)) := serve_of_decode_error hdecode _

/-- Settles O8: the frame is valid, so the look-up fails on its register byte alone, which the step answers with UNKNOWN. -/
theorem unknownRegisterLookupIsIgnored : Obligations.UnknownRegisterLookupIsIgnored := by
  intro s hdr cmd reg payload rest hlegal hlen hunknown hrequests
  have hdecode : decode (registerRequest hdr cmd reg payload) = .error (.unknownRegister reg) :=
    (decode_registerRequest hdr cmd reg ((payloadFits_iff payload).mpr hlen)).trans (decodeCatalogue_unknown hunknown)
  calc step s = serve (registerRequest hdr cmd reg payload) (s.takeRequest rest) := step_of_request hlegal hrequests
    _ = .next ((s.takeRequest rest).rejectRequest (.unknownRegister reg)) := serve_of_decode_error hdecode _

/-! ### Requests written out -/

/-- Settles O14: the decoder, run on each of the nine requests. -/
theorem writtenOutWordsDecode : Obligations.WrittenOutWordsDecode :=
  ⟨rfl, rfl, rfl, rfl, rfl, rfl, rfl, rfl, rfl⟩

end Sys2Proof

/-! PROOFS. The Frame Codec and the decoders (40_codec.md R100 to R115): what each answers, on every operand and in every state. An
operation here is `.next` of an answer, so each statement is a fact about a pure function of Machine/Operands.lean, carried to `exec`
by the equations of the first part. -/

namespace Sys2Proof.Machine

/-! ### What a codec operation leaves of the state -/

/-- Without a warning the answer is all that changes (R115). -/
theorem State.answerLogged_quiet {α : Type} (s : State) (f : α → Value) (v : α) :
    s.answerLogged f { val := v, warns := [] } = { s with response := .value (f v) } := rfl

/-- One warning is one event of `log` (R115, R231). -/
theorem State.answerLogged_warned {α : Type} (s : State) (f : α → Value) (v : α) (e : LogEvent) :
    s.answerLogged f { val := v, warns := [e] } =
      { s with log := s.log ++ [s.stamp 0 e], eventNo := s.eventNo + 1, response := .value (f v) } := rfl

theorem exec_codecEncode (cmd : Cmd) (reg : Byte) (payload : Bytes) (s : State) :
    exec (.codecEncode cmd reg payload) s = .next (s.answerEncode cmd reg payload) := rfl

theorem exec_codecValidate (cand : Bytes) (s : State) :
    exec (.codecValidate cand) s = .next { s with response := .value (.verdict (validate cand)) } := rfl

theorem exec_codecF32ToBytes (w : Word) (s : State) :
    exec (.codecF32ToBytes w) s = .next { s with response := .value (.bytes (le32Bytes w)) } := rfl

theorem exec_decodeF32 (bs : Bytes) (k : Word) (s : State) :
    exec (.decodeF32 bs k) s = .next (s.answerLogged .f32 (readF32 s.cfg.f32Sentinel bs k)) := rfl

theorem exec_decodeTelemetry (bs : Bytes) (s : State) :
    exec (.decodeTelemetry bs) s = .next (s.answerLogged .telemetry (readTelemetry s.cfg.f32Sentinel bs)) := rfl

theorem exec_decodeComposite (bs : Bytes) (s : State) :
    exec (.decodeComposite bs) s = .next (s.answerLogged .composite (readComposite bs)) := rfl

theorem exec_decodeRegister (reg : Byte) (payload : Bytes) (s : State) :
    exec (.decodeRegister reg payload) s =
      .next (s.answerLogged .register (readRegister s.cfg.f32Sentinel reg payload)) := rfl

/-! ### The checksum -/

/-- Settles O15: the sum over naturals reduced once, which `checksum_eq_foldl` has equal the wrapping fold. -/
theorem checksumIsSumModulo256 : Obligations.ChecksumIsSumModulo256 := fun reg len payload _ =>
  ⟨checksum reg len payload, rfl, checksum_toNat reg len payload, checksum_eq_foldl reg len payload⟩

/-- A changed payload byte moves the checksum by the difference of the two bytes, modulo 256 (R114). -/
theorem checksum_set_sub_checksum (reg len : Byte) {payload : Bytes} {k : Nat} (a : Byte) (h : k < payload.length) :
    checksum reg len (payload.set k a) - checksum reg len payload = a - byteAt payload k := by
  have hsum := byteSum_set payload k a h
  have hnew := checksum_toNat reg len (payload.set k a)
  have hold := checksum_toNat reg len payload
  bv_omega

/-- Settles O16: the checksums differ by what the bytes differ by, so they are equal only if the bytes are. -/
theorem checksumSeesOnePayloadByte : Obligations.ChecksumSeesOnePayloadByte := by
  intro reg len payload k a' s hk
  have hdiff := checksum_set_sub_checksum reg len a' hk
  refine ⟨_, _, rfl, rfl, hdiff, fun hne heq => hne ?_⟩
  rw [heq, sub_self] at hdiff
  exact sub_eq_zero.mp hdiff.symm

/-! ### Building a frame -/

/-- The checksum of a frame, whose length byte is the payload's length modulo 256 (R74, R75). -/
theorem checksum_length (reg : Byte) (payload : Bytes) :
    checksum reg (BitVec.ofNat 8 payload.length) payload = BitVec.ofNat 8 (reg.toNat + payload.length + byteSum payload) := by
  apply BitVec.eq_of_toNat_eq
  rw [checksum_toNat, BitVec.toNat_ofNat, BitVec.toNat_ofNat]
  omega

/-- `F1 cmd reg N payload chk` (R71, R101), the checksum written as a sum of naturals. -/
def outboundBytes (cmdbyte reg : Byte) (payload : Bytes) : Bytes :=
  [0xF1, cmdbyte, reg, BitVec.ofNat 8 payload.length] ++ payload ++
    [BitVec.ofNat 8 (reg.toNat + payload.length + (payload.map BitVec.toNat).sum)]

theorem frameBytes_hdrToDevice (cmdbyte reg : Byte) (payload : Bytes) :
    frameBytes Config.hdrToDevice cmdbyte reg payload = outboundBytes cmdbyte reg payload := by
  rw [frameBytes, checksum_length]
  rfl

theorem State.answerEncode_eq_outboundBytes (s : State) (cmd : Cmd) (reg : Byte) {payload : Bytes} (h : payload.length ≤ 255) :
    s.answerEncode cmd reg payload = { s with response := .value (.bytes (outboundBytes (cmdByte cmd) reg payload)) } := by
  rw [s.answerEncode_fits cmd reg h, frameBytes_hdrToDevice]
  rfl

/-- Settles O17: the two clauses are the two branches of `encodeFrame`. -/
theorem encodeBuildsFrameOrFaults : Obligations.EncodeBuildsFrameOrFaults := by
  intro cmd reg payload s
  constructor
  · intro hfits
    rw [exec_codecEncode, s.answerEncode_eq_outboundBytes cmd reg hfits]
    cases cmd <;> rfl
  · intro hlong
    rw [exec_codecEncode, s.answerEncode_long cmd reg hlong]
    rfl

/-- Settles O18: each row is the encode of its own command. -/
theorem frameRowsBuildTheirFrame : Obligations.FrameRowsBuildTheirFrame := by
  intro reg payload s hfits
  have hbuilt (cmd : Cmd) : Host.Outcome.next (φ := Fault) (ρ := Refusal) (s.answerEncode cmd reg payload) =
      .next { s with response := .value (.bytes (outboundBytes (cmdByte cmd) reg payload)) } :=
    congrArg _ (s.answerEncode_eq_outboundBytes cmd reg hfits)
  exact ⟨hbuilt .get, hbuilt .set, hbuilt .enable, hbuilt .baud⟩

/-! ### Validating a candidate -/

/-- The payload of a candidate lies between its four head bytes and its checksum (R71). -/
theorem slice_payload (cand : Bytes) : slice cand 4 (cand.length - 2) = (cand.drop 4).dropLast := by
  rw [slice, List.dropLast_eq_take, List.length_drop]
  exact congrArg (fun n => (cand.drop 4).take n) (by omega)

/-- The bytes the checksum covers: register, length and payload (R75). -/
theorem dropLast_drop_two {cand : Bytes} (h : 5 ≤ cand.length) :
    (cand.drop 2).dropLast = byteAt cand 2 :: byteAt cand 3 :: (cand.drop 4).dropLast := by
  match cand, h with
  | _ :: _ :: _ :: _ :: _ :: _, _ => rfl

/-- R75's checksum of the fields is the sum of the bytes 2 to L - 2, modulo 256 (R102). -/
theorem eq_checksum_iff_toNat {cand : Bytes} (h : 5 ≤ cand.length) (b : Byte) :
    b = checksum (byteAt cand 2) (byteAt cand 3) (cand.drop 4).dropLast ↔
      b.toNat = byteSum (cand.drop 2).dropLast % 256 := by
  rw [← BitVec.toNat_inj, checksum_toNat, dropLast_drop_two h, byteSum_cons, byteSum_cons, Nat.add_assoc]

/-- R102's chain of checks, its checksum over one range of the candidate. -/
theorem validate_eq (cand : Bytes) :
    validate cand =
      if cand.length < 5 then .invalid .short
      else if (byteAt cand 3).toNat ≠ cand.length - 5 then .invalid .length
      else if (byteAt cand (cand.length - 1)).toNat ≠ byteSum (cand.drop 2).dropLast % 256 then .invalid .checksum
      else .valid
        { hdr := byteAt cand 0, cmd := byteAt cand 1, reg := byteAt cand 2, len := byteAt cand 3
          payload := (cand.drop 4).dropLast } := by
  rw [validate, slice_payload]
  by_cases hshort : cand.length < 5
  · rw [if_pos hshort, if_pos hshort]
  · rw [if_neg hshort, if_neg hshort]
    have hchk := eq_checksum_iff_toNat (Nat.le_of_not_lt hshort) (byteAt cand (cand.length - 1))
    exact if_congr Iff.rfl rfl (if_congr (not_congr hchk) rfl rfl)

/-- Settles O19: `validate_eq` is the verdict, and the codes of the two outputs are read off `Verdict.isValid` and
`Verdict.reason`. -/
theorem validateGivesFirstFailingCheck : Obligations.ValidateGivesFirstFailingCheck := by
  intro cand s
  refine ⟨?verdict, fun f => ⟨rfl, rfl⟩, fun r => ⟨rfl, ?reason⟩⟩
  case verdict =>
    rw [exec_codecValidate, validate_eq]
    rfl
  case reason => cases r <;> rfl

/-! ### Round trips -/

theorem readF32_le32Bytes (z w : Word) : readF32 z (le32Bytes w) 0 = { val := { w := w, short := false }, warns := [] } := by
  have hread : le32 (le32Bytes w) 0 = w := by
    simpa using le32_le32Bytes w []
  have hfull : (0 : Word).toNat + 4 ≤ (le32Bytes w).length := Nat.le_refl 4
  rw [readF32_full hfull, show (0 : Word).toNat = 0 from rfl, hread]

/-- Settles O20: an encoded frame is one that validates, and the four bytes of a word are read back as it. -/
theorem codecRoundTripLaw : Obligations.CodecRoundTripLaw := by
  constructor
  · intro cmd reg payload s hfits
    refine ⟨frameBytes Config.hdrToDevice (cmdByte cmd) reg payload, ?_, ?_⟩
    · rw [exec_codecEncode, s.answerEncode_fits cmd reg hfits]
      rfl
    · rw [exec_codecValidate, validate_frameBytes _ _ _ _ hfits]
      cases cmd <;> rfl
  · intro w s
    refine ⟨le32Bytes w, rfl, ?_⟩
    rw [exec_decodeF32, readF32_le32Bytes, State.answerLogged_quiet]

/-- Settles O21: the bytes read back as the word, and `le32` reads the least significant one first. -/
theorem f32BytesAreLittleEndian : Obligations.F32BytesAreLittleEndian := by
  intro w s
  obtain ⟨b0, b1, b2, b3, hbytes, hword⟩ := le32Bytes_operand w
  refine ⟨b0, b1, b2, b3, by rw [exec_codecF32ToBytes, hbytes], ?_⟩
  rw [← hword]
  exact le32_toNat [b0, b1, b2, b3] 0

/-! ### The decoders of one word and of one byte -/

/-- Settles O23: the two clauses are the two branches of the bounds check of `DECODE_F32`. -/
theorem decodeF32ReadsOrWarns : Obligations.DecodeF32ReadsOrWarns := by
  intro bs k s
  constructor
  · intro hshort
    rw [exec_decodeF32, readF32_short hshort, State.answerLogged_warned]
  · intro hfull
    refine ⟨le32 bs k.toNat, ?_, le32_toNat bs k.toNat⟩
    rw [exec_decodeF32, readF32_full hfull, State.answerLogged_quiet]

/-- An instruction that answers `f` of the byte `DECODE_U8` reads answers `f` of 0 with one log on a short read, and else `f` of the
byte at `k` (R106; R107 to R109 are of this shape). -/
theorem exec_of_byteRead {i : Instr} {s : State} {bs : Bytes} {k : Word} (f : U8Read → Value)
    (hexec : exec i s = .next (s.answerLogged f (readU8 bs k))) :
    (k.toNat + 1 > bs.length → exec i s = .next
      { s with log := s.log ++ [s.stamp 0 { code := .decodeShortU8, info := k }]
               eventNo := s.eventNo + 1
               response := .value (f { b := 0x00, short := true }) }) ∧
    (∀ b : Byte, bs[k.toNat]? = some b →
      exec i s = .next { s with response := .value (f { b := b, short := false }) }) := by
  constructor
  · intro hshort
    rw [hexec, readU8_short hshort, State.answerLogged_warned]
  · intro b hb
    rw [hexec, readU8_full hb, State.answerLogged_quiet]

/-- What `DECODE_BOOL` makes of a byte read (R107). -/
def boolOfByte (r : U8Read) : Value := .bool { v := r.b != 0, short := r.short }

/-- What `DECODE_PROTECTION` makes of a byte read (R108). -/
def protectionOfByte (r : U8Read) : Value := .protection { val := protValue r.b, short := r.short }

/-- What `DECODE_MODE` makes of a byte read (R109). -/
def modeOfByte (r : U8Read) : Value := .mode { val := modeValue r.b, short := r.short }

/-- Settles O24: `DECODE_U8` answers the byte read itself. -/
theorem decodeU8ReadsOrWarns : Obligations.DecodeU8ReadsOrWarns := fun _ _ _ => exec_of_byteRead .u8 rfl

theorem bne_zero_eq_decide (b : Byte) : (b != 0) = decide (b ≠ 0) := by
  rw [Bool.eq_iff_iff, bne_iff_ne, decide_eq_true_iff]

/-- Settles O25: `DECODE_BOOL` compares the byte read with 0. -/
theorem decodeBoolIsNonZero : Obligations.DecodeBoolIsNonZero := by
  intro bs k s
  obtain ⟨hshort, hfull⟩ := exec_of_byteRead (i := .decodeBool bs k) (s := s) boolOfByte rfl
  refine ⟨hshort, fun b hb => ?_⟩
  rw [hfull b hb, boolOfByte, bne_zero_eq_decide]

/-! ### Enumerations -/

section Enumerations

variable {L : Type} {table : List L} {b : Byte} (first : L)

/-- An ordinal of the table has its label (R111). -/
theorem enumValue_of_lt (h : b.toNat < table.length) :
    (enumValue table first b).ord = b ∧ (enumValue table first b).clamped = false ∧
      table[b.toNat]? = some (enumValue table first b).label := by
  simp [enumValue, List.getElem?_eq_getElem h]

/-- A byte outside the table is clamped to its first entry (R111). -/
theorem enumValue_of_ge (h : table.length ≤ b.toNat) :
    enumValue table first b = { ord := 0, label := first, clamped := true } := by
  rw [enumValue, List.getElem?_eq_none h]

end Enumerations

/-- R108's table, ordinal by ordinal. -/
theorem protValue_eq (b : Byte) :
    protValue b =
      if b = 0 then { ord := 0, label := .none, clamped := false }
      else if b = 1 then { ord := 1, label := .ovp, clamped := false }
      else if b = 2 then { ord := 2, label := .ocp, clamped := false }
      else if b = 3 then { ord := 3, label := .opp, clamped := false }
      else if b = 4 then { ord := 4, label := .otp, clamped := false }
      else if b = 5 then { ord := 5, label := .lvp, clamped := false }
      else { ord := 0, label := .none, clamped := true } := by
  split_ifs with h0 h1 h2 h3 h4 h5
  case neg =>
    have hout : protTable.length ≤ b.toNat := by
      change 6 ≤ b.toNat
      bv_omega
    exact enumValue_of_ge .none hout
  all_goals
    subst b
    rfl

/-- R109's table, ordinal by ordinal. -/
theorem modeValue_eq (b : Byte) :
    modeValue b =
      if b = 0 then { ord := 0, label := .cc, clamped := false }
      else if b = 1 then { ord := 1, label := .cv, clamped := false }
      else { ord := 0, label := .cc, clamped := true } := by
  split_ifs with h0 h1
  case neg =>
    have hout : modeTable.length ≤ b.toNat := by
      change 2 ≤ b.toNat
      bv_omega
    exact enumValue_of_ge .cc hout
  all_goals
    subst b
    rfl

/-- Settles O26: `DECODE_PROTECTION` looks the byte read up in R108's table. -/
theorem decodeProtectionLabelsOrClamps : Obligations.DecodeProtectionLabelsOrClamps := by
  intro bs k s
  obtain ⟨hshort, hfull⟩ := exec_of_byteRead (i := .decodeProtection bs k) (s := s) protectionOfByte rfl
  refine ⟨hshort, fun b hb => ?_⟩
  rw [hfull b hb, protectionOfByte, protValue_eq]

/-- Settles O27: `DECODE_MODE` looks the byte read up in R109's table. -/
theorem decodeModeLabelsOrClamps : Obligations.DecodeModeLabelsOrClamps := by
  intro bs k s
  obtain ⟨hshort, hfull⟩ := exec_of_byteRead (i := .decodeMode bs k) (s := s) modeOfByte rfl
  refine ⟨hshort, fun b hb => ?_⟩
  rw [hfull b hb, modeOfByte, modeValue_eq]

/-! ### Telemetry -/

section Telemetry

variable (z : Word) (bs : Bytes) {k : Nat} (hk : k < 2 ^ 32)
include hk

theorem readF32_ofNat_val : (readF32 z bs (BitVec.ofNat 32 k)).val =
    if bs.length < k + 4 then { w := z, short := true } else { w := le32 bs k, short := false } := by
  have hnat : (BitVec.ofNat 32 k).toNat = k := Nat.mod_eq_of_lt hk
  split_ifs with hshort
  · rw [readF32_short (by rwa [hnat])]
  · rw [readF32_full (by omega), hnat]

theorem readF32_ofNat_warns : (readF32 z bs (BitVec.ofNat 32 k)).warns =
    ([k].filter fun k => bs.length < k + 4).map fun k => { code := .decodeShortF32, info := BitVec.ofNat 32 k } := by
  have hnat : (BitVec.ofNat 32 k).toNat = k := Nat.mod_eq_of_lt hk
  by_cases hshort : bs.length < k + 4
  · rw [readF32_short (by rwa [hnat]), List.filter_cons_of_pos (by simpa using hshort)]
    rfl
  · rw [readF32_full (by omega), List.filter_cons_of_neg (by simpa using hshort)]
    rfl

end Telemetry

/-- The warnings of the three fields are those of the short offsets, in offset order (R110, R229). -/
theorem readTelemetry_warns (z : Word) (bs : Bytes) : (readTelemetry z bs).warns =
    (([0, 4, 8] : List Nat).filter fun k => bs.length < k + 4).map
      fun k => { code := .decodeShortF32, info := BitVec.ofNat 32 k } := by
  rw [show ([0, 4, 8] : List Nat) = [0] ++ [4] ++ [8] from rfl, List.filter_append, List.filter_append, List.map_append,
    List.map_append, ← readF32_ofNat_warns z bs (by decide), ← readF32_ofNat_warns z bs (by decide),
    ← readF32_ofNat_warns z bs (by decide)]
  rfl

theorem readTelemetry_val (z : Word) (bs : Bytes) : (readTelemetry z bs).val =
    { v := if bs.length < 0 + 4 then { w := z, short := true } else { w := le32 bs 0, short := false }
      i := if bs.length < 4 + 4 then { w := z, short := true } else { w := le32 bs 4, short := false }
      p := if bs.length < 8 + 4 then { w := z, short := true } else { w := le32 bs 8, short := false } } := by
  rw [← readF32_ofNat_val z bs (by decide), ← readF32_ofNat_val z bs (by decide), ← readF32_ofNat_val z bs (by decide)]
  rfl

/-- Settles O28: the record and the warnings are those of three `DECODE_F32` reads. -/
theorem telemetryIsThreeF32 : Obligations.TelemetryIsThreeF32 := by
  intro bs s field short
  rw [exec_decodeTelemetry, State.answerLogged_eq, readTelemetry_warns, readTelemetry_val, List.length_map]

/-! ### The all-state record -/

theorem readComposite_short {bs : Bytes} (h : bs.length < 139) :
    readComposite bs = { val := none, warns := [{ code := .decodeShortComposite, info := lengthInfo bs.length }] } :=
  if_pos h

theorem readComposite_full {bs : Bytes} (h : 139 ≤ bs.length) :
    readComposite bs = { val := some (compositeRecord bs), warns := [] } :=
  if_neg (Nat.not_lt.mpr h)

/-- Settles O29: the record's words are its definition, and its two enumerations read the tables inside and outside their bounds. -/
theorem compositeIsAllOrNothing : Obligations.CompositeIsAllOrNothing := by
  intro bs s
  constructor
  · intro hshort
    rw [exec_decodeComposite, readComposite_short hshort, State.answerLogged_warned]
    rfl
  · intro hfull
    refine ⟨compositeRecord bs, ?exec, rfl, rfl, rfl, rfl, rfl, rfl, rfl, ?outEn, ?protIn, ?protOut, ?modeIn, ?modeOut, rfl⟩
    case exec => rw [exec_decodeComposite, readComposite_full hfull, State.answerLogged_quiet]
    case outEn => exact bne_zero_eq_decide (byteAt bs 107)
    case protIn => exact fun hin => enumValue_of_lt (table := protTable) .none (Nat.lt_succ_of_le hin)
    case protOut => exact fun hout => enumValue_of_ge (table := protTable) .none (Nat.lt_of_not_le hout)
    case modeIn => exact fun hin => enumValue_of_lt (table := modeTable) .cc (Nat.lt_succ_of_le hin)
    case modeOut => exact fun hout => enumValue_of_ge (table := modeTable) .cc (Nat.lt_of_not_le hout)

/-! ### Dispatch by register id -/

/-- Past the nine ids of R76 the decoder's dispatch has its default alone (R112). -/
theorem readRegister_unknown (z : Word) {reg : Byte} (payload : Bytes)
    (h : reg.toNat ∉ [0xC0, 0xC1, 0xC2, 0xC3, 0xC4, 0xDB, 0xDC, 0xDD, 0xFF]) :
    readRegister z reg payload = { val := .unknown reg, warns := [] } := by
  unfold readRegister
  split
  case h_10 => rfl
  all_goals
    rename_i hreg
    exact absurd (by rw [hreg]; decide) h

/-- A register id whose dispatch is a decoder's result under a name answers what the decoder's instruction answers, under that
name and with the same warnings (R112). -/
theorem exec_decodeRegister_of_mapVal {α : Type} {i : Instr} {id : Byte} {payload : Bytes} {s : State} {r : Logged α}
    (f : α → Value) (name : α → RegValue) (hexec : exec i s = .next (s.answerLogged f r))
    (hread : readRegister s.cfg.f32Sentinel id payload = r.mapVal name) :
    ∃ (u : State) (v : α), exec i s = .next { u with response := .value (f v) } ∧
      exec (.decodeRegister id payload) s = .next { u with response := .value (.register (name v)) } := by
  refine ⟨s.emitLogs r.warns, r.val, hexec, ?_⟩
  rw [exec_decodeRegister, hread]
  rfl

/-- Settles O30: each of the nine ids dispatches to its own decoder, and any other id to none. -/
theorem decodeRegisterDispatches : Obligations.DecodeRegisterDispatches := by
  intro payload s asF32
  have hf32 (id : Byte) (field : F32Field) (hread : readRegister s.cfg.f32Sentinel id payload =
      (readF32 s.cfg.f32Sentinel payload 0).mapVal (.f32 field)) : asF32 id field :=
    exec_decodeRegister_of_mapVal .f32 (.f32 field) rfl hread
  refine ⟨hf32 _ _ rfl, hf32 _ _ rfl, hf32 _ _ rfl, hf32 _ _ rfl,
    exec_decodeRegister_of_mapVal .telemetry .telemetry rfl rfl, exec_decodeRegister_of_mapVal .bool .outEn rfl rfl,
    exec_decodeRegister_of_mapVal .protection .protection rfl rfl, exec_decodeRegister_of_mapVal .mode .mode rfl rfl,
    exec_decodeRegister_of_mapVal .composite .composite rfl rfl, fun reg hunknown => ?_⟩
  rw [exec_decodeRegister, readRegister_unknown _ payload hunknown, State.answerLogged_quiet]

/-- Settles O31: a row's meaning is `DECODE_REGISTER` of its id; the header and the command are not read. -/
theorem registerRowsDecodeTheirPayload : Obligations.RegisterRowsDecodeTheirPayload := by
  intro hdr cmd payload s same
  have hrow (i : Instr) (id : Byte) (h : exec i s = .next (s.answerRegister id payload)) : same i id := ⟨_, h, rfl⟩
  exact ⟨hrow _ _ rfl, hrow _ _ rfl, hrow _ _ rfl, hrow _ _ rfl, hrow _ _ rfl, hrow _ _ rfl, hrow _ _ rfl, hrow _ _ rfl,
    hrow _ _ rfl⟩

/-! ### Purity -/

/-- Warnings as the decoders append them (R221). -/
def DecoderWarnings (warns : List LogEvent) : Prop :=
  ∀ e ∈ warns, e.code = .decodeShortF32 ∨ e.code = .decodeShortU8 ∨ e.code = .decodeShortComposite

theorem DecoderWarnings.nil : DecoderWarnings [] := nofun

theorem DecoderWarnings.append {xs ys : List LogEvent} (hx : DecoderWarnings xs) (hy : DecoderWarnings ys) :
    DecoderWarnings (xs ++ ys) := fun e he => (List.mem_append.mp he).elim (hx e) (hy e)

theorem readF32_decoderWarnings (z : Word) (bs : Bytes) (k : Word) : DecoderWarnings (readF32 z bs k).warns := by
  unfold readF32
  split
  · simp [DecoderWarnings]
  · exact .nil

theorem readU8_decoderWarnings (bs : Bytes) (k : Word) : DecoderWarnings (readU8 bs k).warns := by
  unfold readU8
  split
  · simp [DecoderWarnings]
  · exact .nil

theorem readTelemetry_decoderWarnings (z : Word) (bs : Bytes) : DecoderWarnings (readTelemetry z bs).warns :=
  ((readF32_decoderWarnings z bs 0).append (readF32_decoderWarnings z bs 4)).append (readF32_decoderWarnings z bs 8)

theorem readComposite_decoderWarnings (bs : Bytes) : DecoderWarnings (readComposite bs).warns := by
  unfold readComposite
  split
  · simp [DecoderWarnings]
  · exact .nil

theorem readRegister_decoderWarnings (z : Word) (reg : Byte) (payload : Bytes) :
    DecoderWarnings (readRegister z reg payload).warns := by
  unfold readRegister
  split
  case h_1 | h_2 | h_3 | h_5 => exact readF32_decoderWarnings z payload 0
  case h_4 => exact readTelemetry_decoderWarnings z payload
  case h_6 | h_7 | h_8 => exact readU8_decoderWarnings payload 0
  case h_9 => exact readComposite_decoderWarnings payload
  case h_10 => exact .nil

/-- With the sentinel word `z` the instruction has one answer and one list of warnings, the same in every state, and changes
nothing else (R115). -/
def AnswersPurely (i : Instr) (z : Word) : Prop :=
  ∃ (answer : Response) (warns : List LogEvent), DecoderWarnings warns ∧
    ∀ s : State, s.cfg.f32Sentinel = z → exec i s = .next
      { s with log := s.log ++ stampedLogs s.stepNo s.eventNo warns, eventNo := s.eventNo + warns.length
               response := answer }

theorem AnswersPurely.of_response {i : Instr} {z : Word} (a : Response)
    (h : ∀ s : State, exec i s = .next { s with response := a }) : AnswersPurely i z :=
  ⟨a, [], .nil, fun s _ => by simp [h]⟩

theorem AnswersPurely.of_logged {i : Instr} {z : Word} {α : Type} {r : Logged α} (f : α → Value)
    (hwarns : DecoderWarnings r.warns)
    (h : ∀ s : State, s.cfg.f32Sentinel = z → exec i s = .next (s.answerLogged f r)) : AnswersPurely i z :=
  ⟨.value (f r.val), r.warns, hwarns, fun s hs => by rw [h s hs, State.answerLogged_eq]⟩

/-- An encode answers a frame or the fault, by its payload's length alone (R101). -/
theorem AnswersPurely.of_encode {i : Instr} {z : Word} {cmd : Cmd} {reg : Byte} {payload : Bytes}
    (h : ∀ s : State, exec i s = .next (s.answerEncode cmd reg payload)) : AnswersPurely i z := by
  by_cases hfits : payload.length ≤ 255
  · exact .of_response _ fun s => by rw [h, s.answerEncode_fits cmd reg hfits]; rfl
  · exact .of_response _ fun s => by rw [h, s.answerEncode_long cmd reg (Nat.lt_of_not_le hfits)]; rfl

/-- The register decoder, and so each register row, reads the sentinel word alone of the state (R112). -/
theorem AnswersPurely.of_register {i : Instr} {z : Word} {id : Byte} {payload : Bytes}
    (h : ∀ s : State, exec i s = .next (s.answerRegister id payload)) : AnswersPurely i z :=
  .of_logged .register (readRegister_decoderWarnings z id payload) fun s hs => hs ▸ h s

/-- Settles O22: of the state a codec instruction reads the sentinel word at most, and all it appends are its decoder's warnings. -/
theorem codecOperationsArePure : Obligations.CodecOperationsArePure := by
  intro i z hcodec
  change AnswersPurely i z
  cases i with
  | codecChecksum _ _ _ | codecValidate _ | codecF32ToBytes _ => exact .of_response _ fun _ => rfl
  | codecEncode _ _ _ | frameGet _ _ | frameSet _ _ | frameEnable _ _ | frameBaud _ _ => exact .of_encode fun _ => rfl
  | decodeF32 bs k => exact .of_logged .f32 (readF32_decoderWarnings z bs k) fun _ hs => hs ▸ rfl
  | decodeU8 bs k => exact .of_logged .u8 (readU8_decoderWarnings bs k) fun _ _ => rfl
  | decodeBool bs k => exact .of_logged boolOfByte (readU8_decoderWarnings bs k) fun _ _ => rfl
  | decodeProtection bs k => exact .of_logged protectionOfByte (readU8_decoderWarnings bs k) fun _ _ => rfl
  | decodeMode bs k => exact .of_logged modeOfByte (readU8_decoderWarnings bs k) fun _ _ => rfl
  | decodeTelemetry bs => exact .of_logged .telemetry (readTelemetry_decoderWarnings z bs) fun _ hs => hs ▸ rfl
  | decodeComposite bs => exact .of_logged .composite (readComposite_decoderWarnings bs) fun _ _ => rfl
  | decodeRegister _ _ | regInputV _ _ _ | regSetV _ _ _ | regSetI _ _ _ | regTelemetry _ _ _ | regTemp _ _ _
  | regOutEn _ _ _ | regProtection _ _ _ | regMode _ _ _ | regAllState _ _ _ => exact .of_register fun _ => rfl
  | framerPush _ | framerReset | seqEnqueue _ | seqIssue | seqTick | linkOpen | linkClose | statusRead _ | blockReset
  | frameInbound _ => cases hcodec

/-! ### Bytes that are no request -/

/-- Every decode error but the two with an answer of their own is ignored (log 14). -/
theorem State.rejectRequest_of_malformed (s : State) {e : DecodeError} (hop : ∀ id, e ≠ .reservedOp id)
    (hreg : ∀ reg, e ≠ .unknownRegister reg) : s.rejectRequest e = { s with response := .ignored e } := by
  cases e with
  | reservedOp id => exact absurd rfl (hop id)
  | unknownRegister reg => exact absurd rfl (hreg reg)
  | _ => rfl

/-- Settles O11: the request is taken and `rejectRequest` answers with the reason. -/
theorem malformedRequestIsDropped : Obligations.MalformedRequestIsDropped := by
  intro s r rest e hlegal hrequests hdecode hop hreg
  calc step s = serve r (s.takeRequest rest) := step_of_request hlegal hrequests
    _ = .next ((s.takeRequest rest).rejectRequest e) := serve_of_decode_error hdecode _
    _ = .next { s.takeRequest rest with response := .ignored e } :=
      congrArg _ ((s.takeRequest rest).rejectRequest_of_malformed hop hreg)

end Sys2Proof.Machine

/-! PROOFS. The Stream Framer (41_framer.md): an equation per case of a received byte (R151 to R153), what a run of bytes leaves of
the candidates' outputs (R154, R159), and the framer against the source's unbounded splitting (R158, R162). -/

namespace Sys2Proof.Machine

/-! ### One received byte -/

theorem State.framerByte_data_idle {s : State} {b : Byte} (hb : b ≠ Config.sentinel) (hm : s.fmode = .idle) :
    s.framerByte b = s := by
  simp [State.framerByte, State.framerData, hb, hm]

theorem State.framerByte_data_room {s : State} {b : Byte} (hb : b ≠ Config.sentinel) (hm : s.fmode = .collect)
    (hroom : s.pending.length < s.cfg.framerCap) : s.framerByte b = { s with pending := s.pending ++ [b] } := by
  simp [State.framerByte, State.framerData, hb, hm, hroom]

theorem State.framerByte_data_full {s : State} {b : Byte} (hb : b ≠ Config.sentinel) (hm : s.fmode = .collect)
    (hfull : ¬ s.pending.length < s.cfg.framerCap) : s.framerByte b = s.framerOverflow := by
  simp [State.framerByte, State.framerData, hb, hm, hfull]

theorem State.framerByte_sentinel_idle {s : State} (hm : s.fmode = .idle) :
    s.framerByte Config.sentinel = { s with pending := [Config.sentinel], fmode := .collect } := by
  simp [State.framerByte, State.framerSentinel, hm]

theorem State.framerByte_sentinel_collect {s : State} (hm : s.fmode = .collect) :
    s.framerByte Config.sentinel = { s.handoff s.pending with pending := [Config.sentinel], fmode := .collect } := by
  simp [State.framerByte, State.framerSentinel, hm]

/-- Whatever the mode, a sentinel leaves a fresh candidate open (R152). -/
theorem State.framerByte_sentinel_opens (s : State) :
    (s.framerByte Config.sentinel).fmode = .collect ∧ (s.framerByte Config.sentinel).pending = [Config.sentinel] := by
  cases hm : s.fmode with
  | idle => simp [State.framerByte_sentinel_idle hm]
  | collect => simp [State.framerByte_sentinel_collect hm]

theorem State.handoff_of_valid (s : State) {c : Bytes} {f : Frame} (h : validate c = .valid f) :
    s.handoff c =
      { s with cntCandidates := s.cntCandidates + 1, cntFramesValid := s.cntFramesValid + 1
               frameOut := s.frameOut ++ [s.stamp 0 (f.emitted c)], eventNo := s.eventNo + 1 } := by
  rw [State.handoff, h]
  rfl

theorem State.handoff_of_invalid (s : State) {c : Bytes} {r : Invalid} (h : validate c = .invalid r) :
    s.handoff c =
      { s with cntCandidates := s.cntCandidates + 1, cntFramesInvalid := s.cntFramesInvalid + 1
               log := s.log ++ [s.stamp 0 { code := r.logCode, info := lengthInfo c.length }]
               eventNo := s.eventNo + 1 } := by
  rw [State.handoff, h]
  rfl

/-! ### Pushes -/

theorem exec_framerPush (chunk : Bytes) (s : State) :
    exec (.framerPush chunk) s = .next (chunk.foldl State.framerByte s).done := rfl

theorem exec_frameInbound (tail : Bytes) (s : State) :
    exec (.frameInbound tail) s = exec (.framerPush (Config.sentinel :: tail)) s := rfl

theorem exec_framerPush_singleton (b : Byte) (s : State) : exec (.framerPush [b]) s = .next (s.framerByte b).done := rfl

/-- The framer does not read the answer, so it may be cleared before the bytes or after them. -/
theorem foldl_framerByte_done (x : Bytes) (s : State) : x.foldl State.framerByte s.done = (x.foldl State.framerByte s).done :=
  foldl_framerByte_response x s .nothing

/-- The second of two pushes finds the framer as the first left it. -/
theorem exec_framerPush_append (x y : Bytes) (s : State) :
    exec (.framerPush (x ++ y)) s = exec (.framerPush y) (x.foldl State.framerByte s).done := by
  rw [exec_framerPush, exec_framerPush, List.foldl_append, foldl_framerByte_done]
  rfl

/-- Settles O36, by induction on the chunks after the first: two pushes in a row are one push of both chunks. -/
theorem chunkingDoesNotMatter : Obligations.ChunkingDoesNotMatter := by
  intro chunks s hne
  cases chunks with
  | nil => exact absurd rfl hne
  | cons chunk chunks =>
    clear hne
    induction chunks generalizing chunk s with
    | nil => simp [execAll, exec_framerPush]
    | cons second rest ih =>
      calc execAll ((chunk :: second :: rest).map .framerPush) s
          = execAll ((second :: rest).map .framerPush) (chunk.foldl State.framerByte s).done := rfl
        _ = exec (.framerPush (second :: rest).flatten) (chunk.foldl State.framerByte s).done := ih _ _
        _ = exec (.framerPush (chunk :: second :: rest).flatten) s := (exec_framerPush_append chunk _ s).symm

/-- Settles O32: the three equations of a data byte. -/
theorem ordinaryByteIsDroppedKeptOrOverflows : Obligations.OrdinaryByteIsDroppedKeptOrOverflows := by
  intro b s hb
  refine ⟨fun hm => ?_, fun hm hroom => ?_, fun hm hfull => ?_⟩ <;> rw [exec_framerPush_singleton]
  · rw [State.framerByte_data_idle hb hm]
    rfl
  · rw [State.framerByte_data_room hb hm hroom]
    rfl
  · rw [State.framerByte_data_full hb hm hfull]
    rfl

/-- Settles O35: `FramerFrame` is the frame, and the fold commutes with any change of the link and the sequencer. -/
theorem pushTouchesOnlyTheFramer : Obligations.PushTouchesOnlyTheFramer := by
  intro chunk s
  have hframe := foldl_framerByte_frame chunk s
  refine ⟨_, exec_framerPush chunk s, congrArg State.done hframe.same, hframe.frames, hframe.logs, ?_⟩
  intro up queue delay ticket
  rw [exec_framerPush, foldl_framerByte_sequencer]
  rfl

/-- Settles O42: the clear, then the empty answer. -/
theorem framerResetClears : Obligations.FramerResetClears := fun _ => rfl

/-! ### Bytes without a sentinel -/

section NoSentinel

variable {chunk : Bytes} (hchunk : Config.sentinel ∉ chunk) {s : State}

include hchunk

theorem foldl_framerByte_data_idle (hm : s.fmode = .idle) : chunk.foldl State.framerByte s = s := by
  induction chunk with
  | nil => rfl
  | cons b bs ih =>
    obtain ⟨hb, hbs⟩ := List.ne_and_not_mem_of_not_mem_cons hchunk
    rw [List.foldl_cons, State.framerByte_data_idle hb.symm hm]
    exact ih hbs

/-- An open candidate takes the whole chunk while it fits (R151). -/
theorem foldl_framerByte_data_room (hm : s.fmode = .collect) (hroom : s.pending.length + chunk.length ≤ s.cfg.framerCap) :
    chunk.foldl State.framerByte s = { s with pending := s.pending ++ chunk } := by
  induction chunk generalizing s with
  | nil => simp
  | cons b bs ih =>
    obtain ⟨hb, hbs⟩ := List.ne_and_not_mem_of_not_mem_cons hchunk
    rw [List.length_cons] at hroom
    have hrest := ih hbs (s := { s with pending := s.pending ++ [b] }) hm
      (by simp only [List.length_append, List.length_singleton]; omega)
    rw [List.foldl_cons, State.framerByte_data_room hb.symm hm (by omega), hrest]
    simp

end NoSentinel

/-- From `s` to `t` no frame came out and no candidate was counted. -/
def SameOutputs (s t : State) : Prop :=
  t.frameOut = s.frameOut ∧ t.cntCandidates = s.cntCandidates ∧ t.cntFramesValid = s.cntFramesValid ∧
    t.cntFramesInvalid = s.cntFramesInvalid

theorem SameOutputs.refl (s : State) : SameOutputs s s := ⟨rfl, rfl, rfl, rfl⟩

theorem SameOutputs.trans {s t u : State} (hst : SameOutputs s t) (htu : SameOutputs t u) : SameOutputs s u := by
  obtain ⟨hout, hcand, hvalid, hinvalid⟩ := hst
  obtain ⟨hout', hcand', hvalid', hinvalid'⟩ := htu
  exact ⟨hout'.trans hout, hcand'.trans hcand, hvalid'.trans hvalid, hinvalid'.trans hinvalid⟩

/-- A data byte hands nothing off; an overflow has a log and a counter of its own (R151, R159). -/
theorem State.framerByte_data_sameOutputs (s : State) {b : Byte} (hb : b ≠ Config.sentinel) :
    SameOutputs s (s.framerByte b) := by
  obtain ⟨h, -⟩ | ⟨h, -⟩ | ⟨-, -, h⟩ | ⟨-, -, -, h⟩ | ⟨-, -, -, h⟩ := s.framerByte_cases b
  · exact absurd h hb
  · exact absurd h hb
  all_goals
    rw [h]
    exact .refl s

theorem foldl_framerByte_data_sameOutputs {chunk : Bytes} (hchunk : Config.sentinel ∉ chunk) (s : State) :
    SameOutputs s (chunk.foldl State.framerByte s) := by
  induction chunk generalizing s with
  | nil => exact .refl s
  | cons b bs ih =>
    obtain ⟨hb, hbs⟩ := List.ne_and_not_mem_of_not_mem_cons hchunk
    exact (s.framerByte_data_sameOutputs hb.symm).trans (ih hbs _)

/-- Settles O38: the bytes are dropped in IDLE and kept in COLLECT, and in no mode do they reach the candidates' outputs. -/
theorem noSentinelNoFrame : Obligations.NoSentinelNoFrame := by
  refine ⟨fun s => rfl, fun chunk s hchunk => ⟨fun hm => ?_, fun hm hroom => ?_, ?_⟩⟩
  · rw [exec_framerPush, foldl_framerByte_data_idle hchunk hm]
    rfl
  · rw [exec_framerPush, foldl_framerByte_data_room hchunk hm hroom]
    rfl
  · exact ⟨_, exec_framerPush chunk s, foldl_framerByte_data_sameOutputs hchunk s⟩

/-! ### A sentinel, and what follows it -/

section OpensCandidate

variable {tail : Bytes} (htail : Config.sentinel ∉ tail) {s : State} (hroom : tail.length + 1 ≤ s.cfg.framerCap)

include htail hroom

/-- From IDLE a sentinel and the data after it are held, with no event (R152, R159). -/
theorem exec_framerPush_opens (hm : s.fmode = .idle) :
    exec (.framerPush (Config.sentinel :: tail)) s =
      .next { s with pending := Config.sentinel :: tail, fmode := .collect, response := .nothing } := by
  rw [exec_framerPush, List.foldl_cons, State.framerByte_sentinel_idle hm, foldl_framerByte_data_room htail rfl]
  · rfl
  · simpa [Nat.add_comm] using hroom

/-- From COLLECT the candidate before them is handed off first (R152, R153). -/
theorem exec_framerPush_handsOff (hm : s.fmode = .collect) :
    exec (.framerPush (Config.sentinel :: tail)) s =
      .next { s.handoff s.pending with pending := Config.sentinel :: tail, fmode := .collect, response := .nothing } := by
  rw [exec_framerPush, List.foldl_cons, State.framerByte_sentinel_collect hm, foldl_framerByte_data_room htail rfl]
  · rfl
  · rw [(s.handoff_frame s.pending).same]
    simpa [Nat.add_comm] using hroom

end OpensCandidate

/-- Settles O33: the equations of a sentinel, and of the hand-off for each verdict. -/
theorem sentinelHandsOffTheCandidate : Obligations.SentinelHandsOffTheCandidate := by
  intro s
  have hpush := exec_framerPush_singleton Config.sentinel s
  refine ⟨fun hm => hpush.trans ?_, fun f hm hv => hpush.trans ?_, fun r hm hv => hpush.trans ?_⟩
  · rw [State.framerByte_sentinel_idle hm]
    rfl
  · rw [State.framerByte_sentinel_collect hm, s.handoff_of_valid hv]
    rfl
  · rw [State.framerByte_sentinel_collect hm, s.handoff_of_invalid hv]
    rfl

/-- Settles O34: the row pushes its sentinel and its tail, and what a hand-off does is the same as at any sentinel. -/
theorem inboundFrameIsReceived : Obligations.InboundFrameIsReceived := by
  intro tail s
  have hpush := exec_frameInbound tail s
  refine ⟨⟨_, rfl, rfl⟩, fun hm htail hroom => hpush.trans ?_, fun f hm hv htail hroom => hpush.trans ?_,
    fun r hm hv htail hroom => hpush.trans ?_⟩
  · exact exec_framerPush_opens htail hroom hm
  · rw [exec_framerPush_handsOff htail hroom hm, s.handoff_of_valid hv]
    rfl
  · rw [exec_framerPush_handsOff htail hroom hm, s.handoff_of_invalid hv]
    rfl

/-! ### A frame that is cut -/

theorem validate_of_short {cand : Bytes} (h : cand.length < 5) : validate cand = .invalid .short := by
  rw [validate, if_pos h]

theorem validate_of_length_ne {cand : Bytes} (h5 : 5 ≤ cand.length) (h : (byteAt cand 3).toNat ≠ cand.length - 5) :
    validate cand = .invalid .length := by
  rw [validate, if_neg (Nat.not_lt.mpr h5), if_pos h]

theorem byteAt_take {bs : Bytes} {k m : Nat} (h : k < m) : byteAt (bs.take m) k = byteAt bs k := by
  simp [byteAt, List.getD_eq_getElem?_getD, h]

/-- From byte 5 on the length byte is there, and it promises more bytes than the cut left (R161). -/
theorem validate_take_frame (hdr cmd reg chk : Byte) {payload : Bytes} {m : Nat} (hfits : payload.length ≤ 255)
    (hm : m ≤ 4 + payload.length) :
    validate (([hdr, cmd, reg, BitVec.ofNat 8 payload.length] ++ payload ++ [chk]).take m) =
      .invalid (if m ≤ 4 then .short else .length) := by
  generalize hframe : [hdr, cmd, reg, BitVec.ofNat 8 payload.length] ++ payload ++ [chk] = frame
  have htotal : frame.length = payload.length + 5 := by simp [← hframe]
  have hlen : (frame.take m).length = m := by
    rw [List.length_take]
    omega
  split
  · exact validate_of_short (by omega)
  · have hbyte : (byteAt (frame.take m) 3).toNat = payload.length := by
      rw [byteAt_take (by omega), ← hframe]
      exact Nat.mod_eq_of_lt (by omega)
    exact validate_of_length_ne (by omega) (by omega)

/-- Settles O41: the answer is the verdict on the cut frame. -/
theorem cutFrameFailsValidation : Obligations.CutFrameFailsValidation := by
  intro cmd reg chk payload m s hfits _ hm
  rw [exec_codecValidate, validate_take_frame _ cmd reg chk hfits hm]

/-! ### What an instruction does to the framer -/

/-- The instructions that clear the framer (R155, R187, R250). -/
def ClearsFramer (i : Instr) : Prop := i = .framerReset ∨ i = .linkClose ∨ i = .blockReset

/-- From `s` to `t` the framer, its capacity and the candidates' outputs are the same. -/
def SameFramer (s t : State) : Prop := t.cfg = s.cfg ∧ t.fmode = s.fmode ∧ t.pending = s.pending ∧ SameOutputs s t

theorem SameFramer.refl (s : State) : SameFramer s s := ⟨rfl, rfl, rfl, .refl s⟩

theorem State.emitLogs_sameFramer (s : State) (ws : List LogEvent) : SameFramer s (s.emitLogs ws) := by
  rw [s.emitLogs_eq]
  exact .refl s

theorem State.transmit_sameFramer (s : State) (e : Entry) (o : TxOutcome) : SameFramer s (s.transmit e o) := by
  cases o with
  | ok => exact .refl s
  | fail =>
    rw [s.transmit_fail]
    exact .refl s

theorem State.flush_sameFramer (s : State) : SameFramer s s.flush := by
  rw [s.flush_eq]
  exact .refl s

theorem receivedBytes_of_isCodec {i : Instr} (h : isCodec i = true) : receivedBytes [i] = [] := by
  cases i with
  | framerPush _ | frameInbound _ => cases h
  | _ => rfl

/-- An instruction clears the framer, or all it does to the framer is to pass on the bytes it receives. -/
theorem exec_framer_cases {i : Instr} {s t : State} (h : exec i s = .next t) :
    ClearsFramer i ∨ SameFramer ((receivedBytes [i]).foldl State.framerByte s) t := by
  obtain ⟨hi, ws, a, rfl⟩ | ⟨chunk, rfl, rfl⟩ | ⟨tail, rfl, rfl⟩ | ⟨rfl, rfl⟩ | ⟨cmd, rfl, -, -, -, rfl⟩ |
    ⟨cmd, log, rfl, rfl⟩ | ⟨rfl, -, rfl⟩ | ⟨rfl, e, rest, o, -, -, -, -, rfl⟩ | ⟨rfl, rfl⟩ | ⟨rfl, rfl⟩ | ⟨rfl, rfl⟩ |
    ⟨idx, rfl, rfl⟩ | ⟨rfl, rfl⟩ := exec_cases h
  · rw [receivedBytes_of_isCodec hi]
    exact .inr (s.emitLogs_sameFramer ws)
  · rw [receivedBytes, receivedBytes, List.append_nil]
    exact .inr (.refl _)
  · rw [receivedBytes, receivedBytes, List.append_nil]
    exact .inr (.refl _)
  · exact .inl (.inl rfl)
  · exact .inr (.refl s)
  · exact .inr (.refl s)
  · exact .inr (.refl s)
  · exact .inr (State.transmit_sameFramer { s with queue := rest, draws := _ } e o)
  · exact .inr (.refl s)
  · exact .inr (.refl s)
  · exact .inl (.inr (.inl rfl))
  · exact .inr (.refl s)
  · exact .inl (.inr (.inr rfl))

/-- Settles O39: bytes without a sentinel hand nothing off, and a clear emits and counts nothing; BLOCK_RESET zeroes the counters. -/
theorem framesComeOutOnlyAtASentinel : Obligations.FramesComeOutOnlyAtASentinel := by
  intro i s t h hreceived
  obtain (rfl | rfl | rfl) | ⟨-, -, -, hpassed⟩ := exec_framer_cases h
  · cases h
    exact ⟨rfl, fun _ => ⟨rfl, rfl, rfl⟩⟩
  · cases h
    obtain ⟨-, -, -, hframes, hcounts⟩ := State.flush_sameFramer { s with linkUp := false }
    exact ⟨hframes, fun _ => hcounts⟩
  · cases h
    obtain ⟨-, -, -, hframes, -⟩ := s.flush_sameFramer
    exact ⟨hframes, fun hreset => absurd rfl hreset⟩
  · obtain ⟨hframes, hcounts⟩ := (foldl_framerByte_data_sameOutputs hreceived s).trans hpassed
    exact ⟨hframes, fun _ => hcounts⟩

/-! ### The source's spans, as the bytes come in -/

/-- Bytes with a sentinel, at the last one. -/
theorem exists_eq_append_sentinel_cons {x : Bytes} (h : Config.sentinel ∈ x) :
    ∃ y last, x = y ++ Config.sentinel :: last ∧ Config.sentinel ∉ last := by
  obtain ⟨last, y, hx, hlast⟩ := List.eq_append_cons_of_mem (List.mem_reverse.mpr h)
  exact ⟨y.reverse, last.reverse, by simpa using congrArg List.reverse hx, by simpa using hlast⟩

theorem not_mem_snoc {x : Bytes} {b : Byte} (hx : Config.sentinel ∉ x) (hb : b ≠ Config.sentinel) :
    Config.sentinel ∉ x ++ [b] := by
  simp [hx, hb.symm]

theorem splitOn_append_sentinel_cons (y : Bytes) {last : Bytes} (h : Config.sentinel ∉ last) :
    (y ++ Config.sentinel :: last).splitOn Config.sentinel = y.splitOn Config.sentinel ++ [last] := by
  rw [List.splitOn_append_cons_self, List.splitOn_eq_singleton h]

theorem getLast?_splitOn_append_sentinel_cons (y : Bytes) {last : Bytes} (h : Config.sentinel ∉ last) :
    ((y ++ Config.sentinel :: last).splitOn Config.sentinel).getLast? = some last := by
  rw [splitOn_append_sentinel_cons y h, List.getLast?_concat]

theorem sentinelSpans_of_not_mem {x : Bytes} (h : Config.sentinel ∉ x) : sentinelSpans x = [] := by
  rw [sentinelSpans, List.splitOn_eq_singleton h]
  rfl

theorem drop_one_splitOn_append_singleton (y last : Bytes) :
    (y.splitOn Config.sentinel ++ [last]).drop 1 = (y.splitOn Config.sentinel).drop 1 ++ [last] :=
  List.drop_append_of_le_length (List.length_pos_of_ne_nil (List.splitOn_ne_nil _ _))

/-- What follows the last sentinel is in no span yet (R162). -/
theorem sentinelSpans_append_sentinel_cons (y : Bytes) {last : Bytes} (h : Config.sentinel ∉ last) :
    sentinelSpans (y ++ Config.sentinel :: last) =
      ((y.splitOn Config.sentinel).drop 1).map (Config.sentinel :: ·) := by
  rw [sentinelSpans, splitOn_append_sentinel_cons y h, drop_one_splitOn_append_singleton, List.dropLast_concat]

/-- A data byte closes no span. -/
theorem sentinelSpans_snoc_data (x : Bytes) {b : Byte} (hb : b ≠ Config.sentinel) :
    sentinelSpans (x ++ [b]) = sentinelSpans x := by
  by_cases hx : Config.sentinel ∈ x
  · obtain ⟨y, last, rfl, hlast⟩ := exists_eq_append_sentinel_cons hx
    rw [List.append_assoc, List.cons_append, sentinelSpans_append_sentinel_cons y (not_mem_snoc hlast hb),
      sentinelSpans_append_sentinel_cons y hlast]
  · rw [sentinelSpans_of_not_mem hx, sentinelSpans_of_not_mem (not_mem_snoc hx hb)]

/-- The first sentinel closes no span. -/
theorem sentinelSpans_snoc_first {x : Bytes} (h : Config.sentinel ∉ x) : sentinelSpans (x ++ [Config.sentinel]) = [] := by
  rw [sentinelSpans_append_sentinel_cons x List.not_mem_nil, List.splitOn_eq_singleton h]
  rfl

/-- Every other sentinel closes the span that the one before it opened. -/
theorem sentinelSpans_snoc_next (y : Bytes) {last : Bytes} (h : Config.sentinel ∉ last) :
    sentinelSpans (y ++ Config.sentinel :: last ++ [Config.sentinel]) =
      sentinelSpans (y ++ Config.sentinel :: last) ++ [Config.sentinel :: last] := by
  rw [sentinelSpans_append_sentinel_cons _ List.not_mem_nil, splitOn_append_sentinel_cons y h,
    drop_one_splitOn_append_singleton, List.map_append, sentinelSpans_append_sentinel_cons y h]
  rfl

/-! ### The candidates that pass validation -/

/-- The candidates that pass validation: `validSpans` keeps those of `sentinelSpans`. -/
def keepValid (cs : List Bytes) : List Bytes := cs.filter fun c => (validate c).isValid

theorem validSpans_eq_keepValid (x : Bytes) : validSpans x = keepValid (sentinelSpans x) := rfl

@[simp] theorem keepValid_nil : keepValid [] = [] := rfl

theorem keepValid_append (cs ds : List Bytes) : keepValid (cs ++ ds) = keepValid cs ++ keepValid ds := List.filter_append ..

theorem keepValid_of_valid {c : Bytes} {f : Frame} (h : validate c = .valid f) : keepValid [c] = [c] := by
  simp [keepValid, h, Verdict.isValid]

theorem keepValid_of_invalid {c : Bytes} {r : Invalid} (h : validate c = .invalid r) : keepValid [c] = [] := by
  simp [keepValid, h, Verdict.isValid]

/-- A valid candidate is a whole frame, so it has at most MAX_FRAME bytes (R102). -/
theorem length_le_of_mem_keepValid {c : Bytes} {cs : List Bytes} (h : c ∈ keepValid cs) : c.length ≤ 260 := by
  by_contra hlong
  obtain ⟨-, hvalid⟩ := List.mem_filter.mp h
  rw [validate_long (Nat.lt_of_not_le hlong)] at hvalid
  cases hvalid

/-! ### The framer's registers after the bytes received -/

/-- What the framer holds after the bytes `x` from a clear framer (R24, R158): nothing before the first sentinel, then the last
sentinel and what followed it, unless that went over the capacity and was dropped (R151). -/
inductive FramerHolds (x : Bytes) (t : State) : Prop where
  | noSentinel (hx : Config.sentinel ∉ x) (hm : t.fmode = .idle)
  | candidate (y last : Bytes) (hx : x = y ++ Config.sentinel :: last) (hlast : Config.sentinel ∉ last)
      (hm : t.fmode = .collect) (hp : t.pending = Config.sentinel :: last)
  | overflowed (y last : Bytes) (hx : x = y ++ Config.sentinel :: last) (hlast : Config.sentinel ∉ last)
      (hm : t.fmode = .idle) (hlong : t.cfg.framerCap < last.length + 1)

theorem FramerHolds.of_sameFramer {x : Bytes} {t u : State} (h : FramerHolds x t) (hsame : SameFramer t u) : FramerHolds x u := by
  obtain ⟨hcfg, hmode, hpending, -⟩ := hsame
  cases h with
  | noSentinel hx hm => exact .noSentinel hx (hmode.trans hm)
  | candidate y last hx hlast hm hp => exact .candidate y last hx hlast (hmode.trans hm) (hpending.trans hp)
  | overflowed y last hx hlast hm hlong => exact .overflowed y last hx hlast (hmode.trans hm) (hcfg ▸ hlong)

theorem FramerHolds.framerByte {x : Bytes} {t : State} (h : FramerHolds x t) (b : Byte) : FramerHolds (x ++ [b]) (t.framerByte b) := by
  by_cases hb : b = Config.sentinel
  · subst hb
    obtain ⟨hmode, hpending⟩ := t.framerByte_sentinel_opens
    exact .candidate x [] rfl List.not_mem_nil hmode hpending
  · cases h with
    | noSentinel hx hm =>
      rw [State.framerByte_data_idle hb hm]
      exact .noSentinel (not_mem_snoc hx hb) hm
    | candidate y last hx hlast hm hp =>
      have hx' : x ++ [b] = y ++ Config.sentinel :: (last ++ [b]) := by simp [hx]
      by_cases hroom : t.pending.length < t.cfg.framerCap
      · rw [State.framerByte_data_room hb hm hroom]
        exact .candidate y (last ++ [b]) hx' (not_mem_snoc hlast hb) hm (by simp [hp])
      · rw [State.framerByte_data_full hb hm hroom]
        have hlong : t.cfg.framerCap < (last ++ [b]).length + 1 := by
          rw [hp, List.length_cons] at hroom
          rw [List.length_append, List.length_singleton]
          omega
        exact .overflowed y (last ++ [b]) hx' (not_mem_snoc hlast hb) rfl hlong
    | overflowed y last hx hlast hm hlong =>
      rw [State.framerByte_data_idle hb hm]
      have hlonger : t.cfg.framerCap < (last ++ [b]).length + 1 := by
        rw [List.length_append]
        omega
      exact .overflowed y (last ++ [b]) (by simp [hx]) (not_mem_snoc hlast hb) hm hlonger

/-- Once a sentinel has come, what follows the last one is held if it fits. -/
theorem FramerHolds.pending_eq {x last : Bytes} {t : State} (h : FramerHolds x t) (hmem : Config.sentinel ∈ x)
    (hlast : (x.splitOn Config.sentinel).getLast? = some last) (hfits : last.length + 1 ≤ t.cfg.framerCap) :
    t.pending = Config.sentinel :: last := by
  cases h with
  | noSentinel hx _ => exact absurd hmem hx
  | candidate y _ hx hnot _ hp =>
    rw [hx, getLast?_splitOn_append_sentinel_cons y hnot] at hlast
    cases hlast
    exact hp
  | overflowed y _ hx hnot _ hlong =>
    rw [hx, getLast?_splitOn_append_sentinel_cons y hnot] at hlast
    cases hlast
    exact absurd hfits (Nat.not_le.mpr hlong)

/-! ### The frames that come out -/

/-- From `s` to `t` the frames that came out have the bytes `cs`, in order. -/
def Emits (cs : List Bytes) (s t : State) : Prop :=
  ∃ ext : List (Stamped FrameOut), t.frameOut = s.frameOut ++ ext ∧ ext.map (·.ev.raw) = cs

theorem Emits.none {s t : State} (h : t.frameOut = s.frameOut) : Emits [] s t := ⟨[], by simp [h], rfl⟩

theorem Emits.trans {cs ds : List Bytes} {s t u : State} (hst : Emits cs s t) (htu : Emits ds t u) : Emits (cs ++ ds) s u := by
  obtain ⟨ext, hout, hraw⟩ := hst
  obtain ⟨ext', hout', hraw'⟩ := htu
  exact ⟨ext ++ ext', by rw [hout', hout, List.append_assoc], by rw [List.map_append, hraw, hraw']⟩

/-- A hand-off emits its candidate exactly when it is valid (R153). -/
theorem State.handoff_emits (s : State) (c : Bytes) : Emits (keepValid [c]) s (s.handoff c) := by
  cases hv : validate c with
  | valid f =>
    rw [keepValid_of_valid hv, s.handoff_of_valid hv]
    exact ⟨_, rfl, rfl⟩
  | invalid r =>
    rw [keepValid_of_invalid hv, s.handoff_of_invalid hv]
    exact .none rfl

/-- A byte emits what it adds to the valid spans. A candidate that overflowed is over 260 bytes, so its span, which the source
closes and the framer does not, is not valid. -/
theorem FramerHolds.emits {x : Bytes} {t : State} (h : FramerHolds x t) (hcap : 260 ≤ t.cfg.framerCap) (b : Byte) :
    ∃ cs, validSpans (x ++ [b]) = validSpans x ++ cs ∧ Emits cs t (t.framerByte b) := by
  simp only [validSpans_eq_keepValid]
  by_cases hb : b = Config.sentinel
  · subst hb
    cases h with
    | noSentinel hx hm =>
      refine ⟨[], by rw [sentinelSpans_snoc_first hx, sentinelSpans_of_not_mem hx, List.append_nil], .none ?_⟩
      rw [State.framerByte_sentinel_idle hm]
    | candidate y last hx hlast hm hp =>
      refine ⟨keepValid [t.pending], ?_, ?_⟩
      · rw [hp, hx, sentinelSpans_snoc_next y hlast, keepValid_append]
      · rw [State.framerByte_sentinel_collect hm]
        exact t.handoff_emits t.pending
    | overflowed y last hx hlast hm hlong =>
      have hinvalid : validate (Config.sentinel :: last) = .invalid .length :=
        validate_long (by rw [List.length_cons]; omega)
      refine ⟨[], ?_, .none ?_⟩
      · rw [hx, sentinelSpans_snoc_next y hlast, keepValid_append, keepValid_of_invalid hinvalid]
      · rw [State.framerByte_sentinel_idle hm]
  · obtain ⟨hout, -⟩ := t.framerByte_data_sameOutputs hb
    exact ⟨[], by rw [sentinelSpans_snoc_data x hb, List.append_nil], .none hout⟩

/-! ### Along pushes and runs -/

/-- From `s`, with a clear framer, to `t` the framer received the bytes `x`: it holds what they left and emitted their valid
spans. -/
structure Received (s : State) (x : Bytes) (t : State) : Prop where
  cfg : t.cfg = s.cfg
  holds : FramerHolds x t
  emits : Emits (validSpans x) s t

theorem Received.none {s : State} (hm : s.fmode = .idle) : Received s [] s :=
  ⟨rfl, .noSentinel List.not_mem_nil hm, .none rfl⟩

theorem Received.framerByte {s t : State} {x : Bytes} (h : Received s x t) (hcap : 260 ≤ s.cfg.framerCap) (b : Byte) :
    Received s (x ++ [b]) (t.framerByte b) := by
  obtain ⟨hcfg, hholds, hemits⟩ := h
  obtain ⟨cs, hspans, hnew⟩ := hholds.emits (hcfg ▸ hcap) b
  refine ⟨?_, hholds.framerByte b, ?_⟩
  · rw [(t.framerByte_frame b).same]
    exact hcfg
  · rw [hspans]
    exact hemits.trans hnew

theorem Received.foldl_framerByte {s t : State} {x : Bytes} (h : Received s x t) (hcap : 260 ≤ s.cfg.framerCap) (y : Bytes) :
    Received s (x ++ y) (y.foldl State.framerByte t) := by
  induction y generalizing x t with
  | nil =>
    rw [List.append_nil]
    exact h
  | cons b y ih =>
    rw [List.append_cons]
    exact ih (h.framerByte hcap b)

theorem Received.of_sameFramer {s t u : State} {x : Bytes} (h : Received s x t) (hsame : SameFramer t u) : Received s x u := by
  obtain ⟨hcfg, hholds, hemits⟩ := h
  have hholds' := hholds.of_sameFramer hsame
  obtain ⟨hcfg', -, -, hout, -⟩ := hsame
  refine ⟨hcfg'.trans hcfg, hholds', ?_⟩
  rw [← List.append_nil (validSpans x)]
  exact hemits.trans (.none hout)

/-- Settles O37: the push's bytes are received one by one, and what the framer holds then is the last sentinel and what follows
it, unless it overflowed. -/
theorem framerEmitsTheSourcesValidSpans : Obligations.FramerEmitsTheSourcesValidSpans := by
  intro x s hcap hmode _
  obtain ⟨hcfg, hholds, ext, hout, hraw⟩ := (Received.none hmode).foldl_framerByte hcap x
  refine ⟨_, ext, exec_framerPush x s, hout, hraw, fun last hmem hlast hfits => ?_⟩
  exact hholds.pending_eq hmem hlast (hcfg ▸ hfits)

theorem receivedBytes_cons (i : Instr) (is : List Instr) : receivedBytes (i :: is) = receivedBytes [i] ++ receivedBytes is := by
  cases i <;> simp [receivedBytes]

/-- Over a run that does not clear the framer the bytes add up (R158). -/
theorem Received.execAll {s t u : State} {x : Bytes} {is : List Instr} (h : Received s x t) (hcap : 260 ≤ s.cfg.framerCap)
    (hrun : execAll is t = .next u) (hclear : ∀ i ∈ is, ¬ ClearsFramer i) : Received s (x ++ receivedBytes is) u := by
  induction is generalizing x t with
  | nil =>
    cases hrun
    rw [receivedBytes, List.append_nil]
    exact h
  | cons i is ih =>
    obtain ⟨v, hexec, hrest⟩ := execAll_cons_eq_next_iff.mp hrun
    obtain ⟨hi, his⟩ := List.forall_mem_cons.mp hclear
    have hsame := (exec_framer_cases hexec).resolve_left hi
    rw [receivedBytes_cons, ← List.append_assoc]
    exact ih ((h.foldl_framerByte hcap _).of_sameFramer hsame) hrest his

/-- Settles O40: the run's bytes are received one by one, whatever steps are between them, and a valid span has at most 260
bytes. -/
theorem runEmitsTheValidSpansReceived : Obligations.RunEmitsTheValidSpansReceived := by
  intro is s t hcap hmode _ hrun hreset hclose hblock
  have hclear : ∀ i ∈ is, ¬ ClearsFramer i := by
    rintro i hi (rfl | rfl | rfl)
    · exact hreset hi
    · exact hclose hi
    · exact hblock hi
  obtain ⟨-, -, ext, hout, hraw⟩ := (Received.none hmode).execAll hcap hrun hclear
  refine ⟨ext, hout, hraw, fun e he => ?_⟩
  have hmem : e.ev.raw ∈ ext.map (·.ev.raw) := List.mem_map_of_mem he
  rw [hraw, validSpans_eq_keepValid] at hmem
  exact (length_le_of_mem_keepValid hmem).trans hcap

end Sys2Proof.Machine

/-! PROOFS. The Command Sequencer (42_sequencer.md R180 to R190): what each of its steps does to the whole state, the spacing of
transmits, and the way of a ticket from its enqueue to its one completion. -/

namespace Sys2Proof.Machine

/-! ### The steps of the sequencer, one equation per case -/

section Enqueue

variable {cmd : Bytes} {s : State}

theorem exec_seqEnqueue_of_badLength (h : cmd.length < 1 ∨ cmd.length > 260) :
    exec (.seqEnqueue cmd) s = .next (s.reject { code := .seqBadCmdLength, info := lengthInfo cmd.length }) := if_pos h

/-- The length is checked first, so a full queue rejects only commands of a legal length (R229). -/
theorem exec_seqEnqueue_of_full (hpos : 1 ≤ cmd.length) (hmax : cmd.length ≤ 260) (hfull : s.queue.length = s.cfg.seqQcap) :
    exec (.seqEnqueue cmd) s = .next (s.reject { code := .seqQueueFull, info := s.nextTicket }) :=
  (if_neg (by rw [Config.seqMaxCmd]; omega)).trans (if_pos hfull)

theorem exec_seqEnqueue_of_room (hpos : 1 ≤ cmd.length) (hmax : cmd.length ≤ 260) (hroom : s.queue.length ≠ s.cfg.seqQcap) :
    exec (.seqEnqueue cmd) s = .next (s.accept cmd) :=
  (if_neg (by rw [Config.seqMaxCmd]; omega)).trans (if_neg hroom)

end Enqueue

/-- R182: with an empty queue or a running delay the worker has no step. -/
theorem exec_seqIssue_of_disabled {s : State} (h : s.queue = [] ∨ 0 < s.delay) : exec .seqIssue s = .next s.passTurn := by
  obtain ⟨-, hpass⟩ | ⟨e, rest, o, hqueue, hdelay, -⟩ := execSeqIssue_cases s
  · exact hpass
  · rw [hqueue, hdelay] at h
    simp at h

/-- R183: an enabled issue takes the head off the queue, draws where the link is up, and transmits. -/
theorem exec_seqIssue_of_enabled {s : State} {e : Entry} {rest : List Entry} (hqueue : s.queue = e :: rest)
    (hdelay : s.delay = 0) :
    ∃ o : TxOutcome, (s.linkUp = false → o = .fail) ∧ (s.linkUp = true → o = Config.linkAnswer s.draws) ∧
      exec .seqIssue s = .next (State.transmit
        { s with queue := rest, draws := (if s.linkUp then s.draws + 1 else s.draws) } e o).done := by
  obtain ⟨hdisabled, -⟩ | ⟨e', rest', o, hqueue', -, hdown, hup, hexec⟩ := execSeqIssue_cases s
  · rw [hqueue, hdelay] at hdisabled
    simp at hdisabled
  · obtain ⟨rfl, rfl⟩ := List.cons.inj (hqueue.symm.trans hqueue')
    exact ⟨o, hdown, hup, hexec⟩

/-- Both outcomes load the delay, and the flush leaves it (R183, R184). -/
@[simp] theorem State.transmit_delay (s : State) (e : Entry) (o : TxOutcome) :
    (s.transmit e o).delay = BitVec.ofNat 32 s.cfg.delayTicks := by
  cases o with
  | ok => rfl
  | fail => rw [s.transmit_fail]

/-- An enabled issue leaves the delay at `DELAY_TICKS`, as far as 32 bits show it (R183, R232). -/
theorem delay_of_enabled_issue {s t : State} (hqueue : s.queue ≠ []) (hdelay : s.delay = 0) (h : exec .seqIssue s = .next t) :
    t.delay.toNat = s.cfg.delayTicks % 2 ^ 32 := by
  obtain ⟨e, rest, hcons⟩ := List.exists_cons_of_ne_nil hqueue
  obtain ⟨o, -, -, hexec⟩ := exec_seqIssue_of_enabled hcons hdelay
  obtain rfl : _ = t := Host.Outcome.next.inj (hexec.symm.trans h)
  rw [State.done_delay, State.transmit_delay, BitVec.toNat_ofNat]

/-! ### The spacing law (R188) -/

/-- Without `BLOCK_RESET` the delay is lowered only by ticks, by one each; every issue that writes it starts at 0 (R182, R185). -/
theorem delay_le_of_exec {i : Instr} {s t : State} (hreset : i ≠ .blockReset) (h : exec i s = .next t) :
    s.delay.toNat ≤ t.delay.toNat + [i].count .seqTick := by
  obtain ⟨-, ws, a, rfl⟩ | ⟨chunk, -, rfl⟩ | ⟨tail, -, rfl⟩ | ⟨-, rfl⟩ | ⟨cmd, -, -, -, -, rfl⟩ |
    ⟨cmd, log, -, rfl⟩ | ⟨-, -, rfl⟩ | ⟨-, e, rest, o, -, hdelay, -, -, rfl⟩ | ⟨rfl, rfl⟩ | ⟨-, rfl⟩ | ⟨-, rfl⟩ |
    ⟨idx, -, rfl⟩ | ⟨rfl, -⟩ := exec_cases h
  · rw [s.emitLogs_eq]
    exact Nat.le_add_right _ _
  · rw [(foldl_framerByte_frame chunk s).same]
    exact Nat.le_add_right _ _
  · rw [(foldl_framerByte_frame (Config.hdrToHost :: tail) s).same]
    exact Nat.le_add_right _ _
  · exact Nat.le_add_right _ _
  · exact Nat.le_add_right _ _
  · exact Nat.le_add_right _ _
  · exact Nat.le_add_right _ _
  · rw [hdelay]
    exact Nat.zero_le _
  · rw [State.done_delay, delay_tick_toNat, List.count_singleton_self]
    exact Nat.le_add_of_sub_le (Nat.le_refl _)
  · exact Nat.le_add_right _ _
  · rw [State.flush_eq]
    exact Nat.le_add_right _ _
  · exact Nat.le_add_right _ _
  · exact absurd rfl hreset

theorem delay_le_of_execAll {is : List Instr} {s t : State} (hreset : Instr.blockReset ∉ is) (h : execAll is s = .next t) :
    s.delay.toNat ≤ t.delay.toNat + is.count .seqTick := by
  induction is generalizing s with
  | nil =>
    cases h
    exact Nat.le_refl _
  | cons i is ih =>
    obtain ⟨u, hexec, hrest⟩ := execAll_cons_eq_next_iff.mp h
    obtain ⟨hi, his⟩ := List.ne_and_not_mem_of_not_mem_cons hreset
    have hfirst := delay_le_of_exec hi.symm hexec
    have hlater := ih his hrest
    have hcount : (i :: is).count .seqTick = [i].count .seqTick + is.count .seqTick := List.count_append (l₁ := [i])
    omega

/-- Settles O49: the first issue loads `DELAY_TICKS`, only ticks lower it, and at the second it is 0. -/
theorem transmitsAreSpacedByDelayTicks : Obligations.TransmitsAreSpacedByDelayTicks := by
  intro s s1 s2 is hqueue hdelay hissue hreset hrun _ hend
  calc s.cfg.delayTicks % 2 ^ 32 = s1.delay.toNat := (delay_of_enabled_issue hqueue hdelay hissue).symm
    _ ≤ s2.delay.toNat + is.count .seqTick := delay_le_of_execAll hreset hrun
    _ = is.count .seqTick := by rw [hend]; exact Nat.zero_add _

/-! ### How entries leave the queue (R181) -/

/-- Between `s` and `t` the entries `gone` leave from the head of the queue, each with one completion, in order, none REJECTED. -/
def Departs (gone : List Entry) (s t : State) : Prop :=
  s.queue = gone ++ t.queue ∧ ∃ ext : List (Stamped Completion), t.completion = s.completion ++ ext ∧
    ext.map (·.ev.ticket) = gone.map (·.ticket) ∧ ∀ c ∈ ext, c.ev.status ≠ .rejected

theorem departs_nil {s t : State} (hqueue : t.queue = s.queue) (hcompletion : t.completion = s.completion) : Departs [] s t :=
  ⟨hqueue.symm, [], by simp [hcompletion], rfl, nofun⟩

/-- A flush drops the whole queue (R184). -/
theorem State.flush_departs (s : State) : Departs s.queue s s.flush := by
  rw [s.flush_eq]
  refine ⟨(List.append_nil _).symm, _, rfl, flushCompletions_tickets _ _ _, fun c hc => ?_⟩
  simp [flushCompletions_status _ _ _ c hc]

/-- A transmit of the head completes it, and on FAIL the flush completes those behind it (R183, R184). -/
theorem State.transmit_departs {s : State} {e : Entry} {rest : List Entry} (hqueue : s.queue = e :: rest) (n : Nat)
    (o : TxOutcome) : ∃ gone, Departs (e :: gone) s (State.transmit { s with queue := rest, draws := n } e o) := by
  cases o with
  | ok =>
    rw [State.transmit_ok]
    exact ⟨[], hqueue, _, rfl, rfl, by simp [State.stamp]⟩
  | fail =>
    rw [State.transmit_fail]
    refine ⟨rest, by simp [hqueue], _, rfl, by simp [State.stamp], ?_⟩
    rw [List.forall_mem_cons]
    refine ⟨nofun, fun c hc => ?_⟩
    simp [flushCompletions_status _ _ _ c hc]

/-- An instruction rejects its enqueue, or queues it, or lets entries depart; only an issue and the two flushing events let any. -/
theorem exec_queue_cases {i : Instr} {s t : State} (h : exec i s = .next t) :
    (∃ cmd, i = .seqEnqueue cmd ∧ t.queue = s.queue ∧
      t.completion = s.completion ++ [s.stamp 0 { ticket := s.nextTicket, status := .rejected }]) ∨
    (∃ cmd, i = .seqEnqueue cmd ∧ t.queue = s.queue ++ [{ ticket := s.nextTicket, cmd := cmd }] ∧
      t.completion = s.completion) ∨
    ((∀ cmd, i ≠ .seqEnqueue cmd) ∧ ∃ gone, Departs gone s t ∧
      (gone ≠ [] → i = .seqIssue ∨ i = .linkClose ∨ i = .blockReset)) := by
  obtain ⟨hi, ws, a, rfl⟩ | ⟨chunk, rfl, rfl⟩ | ⟨tail, rfl, rfl⟩ | ⟨rfl, rfl⟩ | ⟨cmd, rfl, -, -, -, rfl⟩ |
    ⟨cmd, log, rfl, rfl⟩ | ⟨rfl, -, rfl⟩ | ⟨rfl, e, rest, o, hqueue, -, -, -, rfl⟩ | ⟨rfl, rfl⟩ | ⟨rfl, rfl⟩ |
    ⟨rfl, rfl⟩ | ⟨idx, rfl, rfl⟩ | ⟨rfl, rfl⟩ := exec_cases h
  · have hcodec : ∀ cmd, i ≠ .seqEnqueue cmd := by
      rintro cmd rfl
      cases hi
    rw [s.emitLogs_eq]
    exact .inr (.inr ⟨hcodec, [], departs_nil rfl rfl, nofun⟩)
  · rw [(foldl_framerByte_frame chunk s).same]
    exact .inr (.inr ⟨nofun, [], departs_nil rfl rfl, nofun⟩)
  · rw [(foldl_framerByte_frame (Config.hdrToHost :: tail) s).same]
    exact .inr (.inr ⟨nofun, [], departs_nil rfl rfl, nofun⟩)
  · exact .inr (.inr ⟨nofun, [], departs_nil rfl rfl, nofun⟩)
  · exact .inr (.inl ⟨cmd, rfl, rfl, rfl⟩)
  · exact .inl ⟨cmd, rfl, rfl, rfl⟩
  · exact .inr (.inr ⟨nofun, [], departs_nil rfl rfl, nofun⟩)
  · obtain ⟨gone, hgone⟩ := State.transmit_departs hqueue _ o
    exact .inr (.inr ⟨nofun, e :: gone, hgone, fun _ => .inl rfl⟩)
  · exact .inr (.inr ⟨nofun, [], departs_nil rfl rfl, nofun⟩)
  · exact .inr (.inr ⟨nofun, [], departs_nil rfl rfl, nofun⟩)
  · exact .inr (.inr ⟨nofun, s.queue, State.flush_departs { s with linkUp := false }, fun _ => .inr (.inl rfl)⟩)
  · exact .inr (.inr ⟨nofun, [], departs_nil rfl rfl, nofun⟩)
  · exact .inr (.inr ⟨nofun, s.queue, s.flush_departs, fun _ => .inr (.inr rfl)⟩)

/-- Settles O50: the three cases of `exec_queue_cases`. -/
theorem entriesLeaveFromTheHeadInOrder : Obligations.EntriesLeaveFromTheHeadInOrder := by
  intro i s t h
  obtain ⟨cmd, hi, hqueue, hcompletion⟩ | ⟨cmd, hi, hqueue, hcompletion⟩ |
    ⟨hi, gone, ⟨hqueue, ext, hcompletion, htickets, hstatus⟩, hleave⟩ := exec_queue_cases h
  · exact ⟨_, hcompletion, .inl ⟨cmd, hi, .inl ⟨_, rfl, rfl, hqueue⟩⟩⟩
  · exact ⟨[], by simp [hcompletion], .inl ⟨cmd, hi, .inr ⟨rfl, hqueue⟩⟩⟩
  · exact ⟨ext, hcompletion, .inr ⟨hi, gone, hqueue, htickets, hstatus, hleave⟩⟩

/-! ### The tickets of a run (R189) -/

/-- The tickets that `n` enqueues receive when the next ticket is `k` (R28, R180). -/
def ticketsFrom (k : Word) (n : Nat) : List Word := (List.range n).map fun j => k + BitVec.ofNat 32 j

theorem ticketsFrom_zero (k : Word) : ticketsFrom k 0 = [] := rfl

theorem ticketsFrom_one (k : Word) : ticketsFrom k 1 = [k] := by simp [ticketsFrom]

theorem ticketsFrom_add (k : Word) (m n : Nat) :
    ticketsFrom k (m + n) = ticketsFrom k m ++ ticketsFrom (k + BitVec.ofNat 32 m) n := by
  simp [ticketsFrom, List.range_add, BitVec.ofNat_add, BitVec.add_assoc]

/-- Between `s` and `t`, with `n` enqueues on the way, the tickets waiting or received complete or still wait (R189). -/
def ResolvesTickets (n : Nat) (s t : State) : Prop :=
  t.nextTicket = s.nextTicket + BitVec.ofNat 32 n ∧
  ∃ ext : List (Stamped Completion), t.completion = s.completion ++ ext ∧
    (ext.map (·.ev.ticket) ++ t.queue.map (·.ticket)).Perm (s.queue.map (·.ticket) ++ ticketsFrom s.nextTicket n)

theorem ResolvesTickets.refl (s : State) : ResolvesTickets 0 s s :=
  ⟨(BitVec.add_zero _).symm, [], by simp, by simp [ticketsFrom_zero]⟩

/-- What still waits after the first part is what the second part finds waiting. -/
theorem ResolvesTickets.trans {m n : Nat} {s t u : State} (hst : ResolvesTickets m s t) (htu : ResolvesTickets n t u) :
    ResolvesTickets (m + n) s u := by
  obtain ⟨hnext₁, ext₁, hcompletion₁, hperm₁⟩ := hst
  obtain ⟨hnext₂, ext₂, hcompletion₂, hperm₂⟩ := htu
  refine ⟨by rw [hnext₂, hnext₁, BitVec.ofNat_add, BitVec.add_assoc], ext₁ ++ ext₂,
    by rw [hcompletion₂, hcompletion₁, List.append_assoc], ?_⟩
  have hsecond := hperm₂.append_left (ext₁.map (·.ev.ticket))
  have hfirst := hperm₁.append_right (ticketsFrom t.nextTicket n)
  rw [hnext₁, List.append_assoc, List.append_assoc, ← ticketsFrom_add] at hfirst
  rw [List.map_append, List.append_assoc]
  rw [hnext₁] at hsecond
  exact hsecond.trans hfirst

theorem length_enqueuedCommands_of_not_enqueue {i : Instr} (h : ∀ cmd, i ≠ .seqEnqueue cmd) :
    (enqueuedCommands [i]).length = 0 := by
  cases i with
  | seqEnqueue cmd => exact absurd rfl (h cmd)
  | _ => rfl

/-- An enqueue's ticket completes REJECTED or joins the queue; the tickets of entries that depart complete. -/
theorem exec_resolvesTickets {i : Instr} {s t : State} (hreset : i ≠ .blockReset) (h : exec i s = .next t) :
    ResolvesTickets (enqueuedCommands [i]).length s t := by
  obtain ⟨-, hincrement, hkeep⟩ := linkUpAndTicketHaveTheirWriters i s t h
  obtain ⟨cmd, rfl, hqueue, hcompletion⟩ | ⟨cmd, rfl, hqueue, hcompletion⟩ |
    ⟨hi, gone, ⟨hqueue, ext, hcompletion, htickets, -⟩, -⟩ := exec_queue_cases h
  · refine ⟨hincrement cmd rfl, _, hcompletion, ?_⟩
    change List.Perm _ (_ ++ ticketsFrom s.nextTicket 1)
    rw [ticketsFrom_one, hqueue]
    exact List.perm_append_comm
  · refine ⟨hincrement cmd rfl, [], by simp [hcompletion], ?_⟩
    change List.Perm _ (_ ++ ticketsFrom s.nextTicket 1)
    simp [ticketsFrom_one, hqueue]
  · rw [length_enqueuedCommands_of_not_enqueue hi]
    refine ⟨by simp [hkeep hi hreset], ext, hcompletion, ?_⟩
    rw [ticketsFrom_zero, htickets, hqueue, List.map_append, List.append_nil]

theorem execAll_resolvesTickets {is : List Instr} {s t : State} (hreset : Instr.blockReset ∉ is)
    (h : execAll is s = .next t) : ResolvesTickets (enqueuedCommands is).length s t := by
  induction is generalizing s with
  | nil =>
    cases h
    exact .refl _
  | cons i is ih =>
    obtain ⟨u, hexec, hrest⟩ := execAll_cons_eq_next_iff.mp h
    obtain ⟨hi, his⟩ := List.ne_and_not_mem_of_not_mem_cons hreset
    rw [enqueuedCommands_cons, List.length_append]
    exact (exec_resolvesTickets hi.symm hexec).trans (ih his hrest)

/-- Settles O51: `ResolvesTickets` holds of one instruction and composes along a run; a permutation keeps tickets distinct. -/
theorem everyTicketIsResolvedOnce : Obligations.EveryTicketIsResolvedOnce := by
  intro is s t h hreset
  obtain ⟨hnext, ext, hcompletion, hperm⟩ := execAll_resolvesTickets hreset h
  exact ⟨hnext, ext, hcompletion, hperm, hperm.nodup_iff.mpr⟩

/-! ### The status registers (R30) -/

/-- The registers of R30 in index order, as words (R9). -/
def State.statusRegisters (s : State) : List Word :=
  [s.fmode.code, lengthInfo s.pending.length, s.cntCandidates, s.cntFramesValid, s.cntFramesInvalid, s.cntFramerOverflow,
    lengthInfo s.queue.length, s.delay, (if s.linkUp then 1 else 0), s.cntTxOk, s.cntTxFail, s.cntDropped, s.cntRejected,
    s.nextTicket, lengthInfo s.cfg.delayTicks, lengthInfo s.cfg.framerCap, lengthInfo s.cfg.seqQcap]

theorem State.statusReg_eq_getD (s : State) (idx : Byte) : s.statusReg idx = s.statusRegisters.getD idx.toNat 0 := by
  unfold State.statusReg
  generalize idx.toNat = n
  match n with
  | 0 | 1 | 2 | 3 | 4 | 5 | 6 | 7 | 8 | 9 | 10 | 11 | 12 | 13 | 14 | 15 | 16 => rfl
  | _ + 17 => rfl

/-! ### The statements about one step -/

/-- Settles O43: the three equations of an enqueue. -/
theorem enqueueAcceptsOrRejects : Obligations.EnqueueAcceptsOrRejects := by
  intro cmd s
  exact ⟨exec_seqEnqueue_of_badLength, exec_seqEnqueue_of_full, exec_seqEnqueue_of_room⟩

/-- Settles O45: what a transmit leaves, from the queue without its head. -/
theorem issueTransmitsTheHead : Obligations.IssueTransmitsTheHead := by
  intro e rest s hqueue hdelay
  obtain ⟨o, hdown, hup, hexec⟩ := exec_seqIssue_of_enabled hqueue hdelay
  refine ⟨o, hdown, hup, hexec.trans ?_⟩
  cases o with
  | ok => rw [State.transmit_ok]; rfl
  | fail => rw [State.transmit_fail]; rfl

/-- Settles O44: a disabled issue passes the turn, which writes the answer alone. -/
theorem issueWithoutEnableChangesNothing : Obligations.IssueWithoutEnableChangesNothing := fun _ => exec_seqIssue_of_disabled

/-- Settles O46: the two branches of a tick. -/
theorem tickCountsDown : Obligations.TickCountsDown := by
  intro s
  refine ⟨fun hrunning => ?_, fun hover => ?_⟩
  · exact congrArg Host.Outcome.next (if_pos hrunning)
  · exact congrArg Host.Outcome.next (if_neg (by rw [hover]; decide))

/-- Settles O47: the one write, then the empty answer. -/
theorem linkOpenSetsLinkUp : Obligations.LinkOpenSetsLinkUp := fun _ => rfl

/-- Settles O48: the flush with the link down, then the clear of the framer. -/
theorem linkCloseFlushesAndClears : Obligations.LinkCloseFlushesAndClears := fun s =>
  congrArg (fun t : State => Host.Outcome.next t.framerClear.done) (State.flush_eq { s with linkUp := false })

/-- Settles O54: the registers of the statement are `State.statusRegisters`. -/
theorem statusReadGivesTheRegister : Obligations.StatusReadGivesTheRegister := fun idx s =>
  congrArg (fun w => Host.Outcome.next (s.answer (.status w))) (s.statusReg_eq_getD idx)

/-! ### The host interface (logs 3, 11) -/

/-- Whatever the outcome, a transmit draws nothing more and leaves the requests and the step counter. -/
theorem State.transmit_hostInterface (s : State) (e : Entry) (o : TxOutcome) :
    (s.transmit e o).requests = s.requests ∧ (s.transmit e o).stepNo = s.stepNo ∧ (s.transmit e o).draws = s.draws := by
  cases o with
  | ok => exact ⟨rfl, rfl, rfl⟩
  | fail =>
    rw [s.transmit_fail]
    exact ⟨rfl, rfl, rfl⟩

/-- Settles O60: every operation leaves the three fields, but for the draw of an enabled issue while the link is up. -/
theorem hostInterfaceFieldsHaveTheirWriters : Obligations.HostInterfaceFieldsHaveTheirWriters := by
  intro i s t h
  obtain ⟨-, ws, a, rfl⟩ | ⟨chunk, -, rfl⟩ | ⟨tail, -, rfl⟩ | ⟨-, rfl⟩ | ⟨cmd, -, -, -, -, rfl⟩ |
    ⟨cmd, log, -, rfl⟩ | ⟨-, -, rfl⟩ | ⟨rfl, e, rest, o, -, -, -, -, rfl⟩ | ⟨-, rfl⟩ | ⟨-, rfl⟩ | ⟨-, rfl⟩ |
    ⟨idx, -, rfl⟩ | ⟨-, rfl⟩ := exec_cases h
  · rw [s.emitLogs_eq]
    exact ⟨rfl, rfl, fun _ => rfl⟩
  · rw [(foldl_framerByte_frame chunk s).same]
    exact ⟨rfl, rfl, fun _ => rfl⟩
  · rw [(foldl_framerByte_frame (Config.hdrToHost :: tail) s).same]
    exact ⟨rfl, rfl, fun _ => rfl⟩
  · exact ⟨rfl, rfl, fun _ => rfl⟩
  · exact ⟨rfl, rfl, fun _ => rfl⟩
  · exact ⟨rfl, rfl, fun _ => rfl⟩
  · exact ⟨rfl, rfl, fun _ => rfl⟩
  · obtain ⟨hrequests, hstep, hdraws⟩ := State.transmit_hostInterface { s with queue := rest, draws := _ } e o
    refine ⟨hrequests, hstep, fun hidle => hdraws.trans ?_⟩
    have hdown : s.linkUp = false := hidle.resolve_left (absurd rfl)
    simp [hdown]
  · exact ⟨rfl, rfl, fun _ => rfl⟩
  · exact ⟨rfl, rfl, fun _ => rfl⟩
  · rw [State.flush_eq]
    exact ⟨rfl, rfl, fun _ => rfl⟩
  · exact ⟨rfl, rfl, fun _ => rfl⟩
  · rw [s.flush_eq]
    exact ⟨rfl, rfl, fun _ => rfl⟩

end Sys2Proof.Machine

/-! PROOFS. The errors, the waiting block, and the code tables (60_exceptions.md R220 to R222, R225, R234). -/

namespace Sys2Proof.Machine

/-! ### Every error is contained in its step, and an idle block waits -/

/-- Settles O9: `exec_answers_next`, which goes through the two instructions that branch. -/
theorem everyInstructionAnswersNextState : Obligations.EveryInstructionAnswersNextState := exec_answers_next

/-- Settles O10: the step waits or serves its head request, and every request is served with a next state. -/
theorem everyStepAnswersNextState : Obligations.EveryStepAnswersNextState := fun _ => step_answers_next

/-- Settles O5: the equation of `step` for an empty request list. -/
theorem stepWithoutRequestWaits : Obligations.StepWithoutRequestWaits := fun _ => step_of_no_request

/-! ### The code tables (R221, R222) -/

/-- The rows of R221's table, in its order. -/
def LogCode.table : List LogCode :=
  [.candShort, .candLength, .candChecksum, .framerOverflow, .decodeShortF32, .decodeShortU8, .decodeShortComposite,
    .seqTxFailed, .seqDropped, .seqQueueFull, .seqBadCmdLength]

theorem LogCode.mem_table (c : LogCode) : c ∈ LogCode.table := by
  cases c <;> decide

theorem LogCode.map_code_table : LogCode.table.map LogCode.code =
    [0x01, 0x02, 0x03, 0x04, 0x10, 0x11, 0x12, 0x20, 0x21, 0x22, 0x23] := rfl

/-- The table lists every log code and repeats no byte. -/
theorem LogCode.code_injective : Function.Injective LogCode.code := fun c d =>
  have hnodup : (LogCode.table.map LogCode.code).Nodup := by decide
  List.inj_on_of_nodup_map hnodup c.mem_table d.mem_table

/-- The rows of R222's table, in its order. -/
def Status.table : List Status := [.ok, .txFailed, .dropped, .rejected]

theorem Status.mem_table (c : Status) : c ∈ Status.table := by
  cases c <;> decide

theorem Status.map_code_table : Status.table.map Status.code = [0, 1, 2, 3] := rfl

/-- The table lists every status and repeats no code. -/
theorem Status.code_injective : Function.Injective Status.code := fun c d =>
  have hnodup : (Status.table.map Status.code).Nodup := by decide
  List.inj_on_of_nodup_map hnodup c.mem_table d.mem_table

/-- Settles O55: the codes row by row, and that the two code functions are injective. -/
theorem logAndStatusCodesAreTheTables : Obligations.LogAndStatusCodesAreTheTables :=
  ⟨LogCode.map_code_table, Status.map_code_table, fun _ _ h => LogCode.code_injective h,
    fun _ _ h => Status.code_injective h⟩

end Sys2Proof.Machine

/-! PROOFS. Reset (70_reset_and_hazards.md R250, R251): what the block holds at power-on, and what `BLOCK_RESET` leaves of a
running block. -/

namespace Sys2Proof.Machine

/-! ### Power-on (R251) -/

/-- At reset the framer's, the sequencer's and the counters' registers are 0, and the parameters follow (R34). -/
theorem State.reset_statusRegisters :
    State.reset.statusRegisters = List.replicate 14 0 ++
      [lengthInfo State.reset.cfg.delayTicks, lengthInfo State.reset.cfg.framerCap, lengthInfo State.reset.cfg.seqQcap] := rfl

theorem State.reset_statusReg_of_le {idx : Byte} (h : idx.toNat ≤ 13) : State.reset.statusReg idx = 0 := by
  have hzero : idx.toNat < (List.replicate 14 (0 : Word)).length := Nat.lt_succ_of_le h
  rw [State.statusReg_eq_getD, State.reset_statusRegisters, List.getD_append _ _ _ _ hzero,
    List.getD_replicate _ (Nat.lt_succ_of_le h)]

/-- Settles O1: the fields as `State.reset` has them; registers 0 to 13 by the register list of R30. -/
theorem resetStateIsRule34 : Obligations.ResetStateIsRule34 :=
  ⟨rfl, rfl, rfl, rfl, rfl, rfl, fun _ => State.reset_statusReg_of_le, rfl, rfl, rfl, rfl, rfl, rfl, rfl⟩

/-! ### `BLOCK_RESET` (R250) -/

/-- Once the queue is empty, the clear of the framer and of the registers leaves the reset state, with the configuration, the
streams and the model's own fields as they were (R34, log 19). -/
theorem State.framerClear_zeroRegisters_of_queue_nil {s : State} (h : s.queue = []) :
    s.framerClear.zeroRegisters =
      { State.reset with
          cfg := s.cfg, frameOut := s.frameOut, log := s.log, linkTx := s.linkTx, completion := s.completion
          stepNo := s.stepNo, eventNo := s.eventNo, draws := s.draws, requests := s.requests, response := s.response } := by
  simp only [State.zeroRegisters, State.framerClear, State.reset, h]

/-- Settles O56: the flush empties the queue, so what follows it leaves the reset state; the events are those of the flush. -/
theorem blockResetFlushesThenResets : Obligations.BlockResetFlushesThenResets := by
  intro s
  have hexec : exec .blockReset s = .next s.flush.framerClear.zeroRegisters.done := rfl
  rw [hexec, State.framerClear_zeroRegisters_of_queue_nil s.flush_queue, s.flush_eq]
  rfl

end Sys2Proof.Machine
